-- ==== Sys2Proof/Word.lean ====
section
/-!
DEFINITION. The word types of the block: bytes of the link, 16-bit samples and PCM values,
32-bit registers, and the carrier of a dispatch word.
-/

namespace Sys2Proof

/-- One byte of the UART queue, the link, the receiver's input and the PCM output (R68). -/
abbrev Byte := BitVec 8

/-- A 16-bit word: a sample (R5), an encoded word (R91) or the bit pattern of an s16 value (R202). -/
abbrev Half := BitVec 16

/-- A register, write datum, read value or event counter: 32 bits (R9, R100). -/
abbrev Reg := BitVec 32

/-- A dispatch word, right-justified. The widest format, `rx`, has 23 bits (R106). -/
abbrev DispatchBits := BitVec 24

end Sys2Proof
end

