-- ==== Sys2Proof/Syntax.lean ====
section
/-!
DEFINITION. The instructions: one constructor of `Instr` for each of the 74 rows of the opcode
map (R111), with the operands the row's step takes. Also the dispatch formats (R106) and the lines
of a trace (R109), which is the only form of program the block has.
-/

namespace Sys2Proof

/-- The two ping-pong buffers (R24, R60). -/
inductive Buf
  | a
  | b
deriving DecidableEq, Repr, Inhabited

/-- The unit a bus access goes to: bit `UNIT` of the bus operation word (R103). -/
inductive BusUnit
  | ctu
  | rdu
deriving DecidableEq, Repr, Inhabited

/-- The nine formats of a dispatch word (R106). -/
inductive Format
  | cap
  | tx
  | enc
  | uart
  | link
  | rx
  | sink
  | bus
  | rst
deriving DecidableEq, Repr, Inhabited

/-- The step the scheduler asks of the link agent: field `CODE` of a `link` word (R106). -/
inductive LinkCode
  | deliver
  | timeout
  | skip
  | drop
  | corrupt
  | insert
deriving DecidableEq, Repr, Inhabited

/-- The rows of the opcode map (R111), in its order. A draw (`v`, `c`) and the write data `d` of a bus
write are operands that the dispatch word does not hold (R103, R106). -/
inductive Instr
  /-- `CONV v` (R130). -/
  | conv (v : BitVec 12)
  /-- `CONV_COMPLETE v` (R133). -/
  | convComplete (v : BitVec 12)
  /-- `TX_SELECT_A` (R150). -/
  | txSelectA
  /-- `TX_SELECT_B` (R150). -/
  | txSelectB
  /-- `TX_POLL_NONE` (R151). -/
  | txPollNone
  /-- `TX_LO` (R152). -/
  | txLo
  /-- `TX_HI` (R153). -/
  | txHi
  /-- `TX_HI_LAST` (R154). -/
  | txHiLast
  /-- `TX_TERM0` (R155). -/
  | txTerm0
  /-- `TX_TERM1` (R156). -/
  | txTerm1
  /-- `ENC_SUBST`: the encode function on `0xFFFF` (R91). -/
  | encSubst
  /-- `ENC_PASS w`: the encode function on any other word (R91). -/
  | encPass (w : Half)
  /-- `UART_SHIFT` (R165). -/
  | uartShift
  /-- `LINK_DELIVER` (R80). -/
  | linkDeliver
  /-- `LINK_TIMEOUT` on an idle line (R81). -/
  | linkTimeout
  /-- `LINK_TIMEOUT_LOSSY` (R81). -/
  | linkTimeoutLossy
  /-- `LINK_SKIP` (R82). -/
  | linkSkip
  /-- `LINK_DROP` (R83). -/
  | linkDrop
  /-- `LINK_CORRUPT c` (R83). -/
  | linkCorrupt (c : Byte)
  /-- `LINK_INSERT c` (R83). -/
  | linkInsert (c : Byte)
  /-- `SYNC_HUNT_FF` (R181). -/
  | syncHuntFf
  /-- `SYNC_HUNT_OTHER` (R180). -/
  | syncHuntOther
  /-- `SYNC_LOCK` (R182). -/
  | syncLock
  /-- `SYNC_RESUME` (R183). -/
  | syncResume
  /-- `SYNC_ERR_EVENT` (R184). -/
  | syncErrEvent
  /-- `DEC_FIRST` (R200). -/
  | decFirst
  /-- `DEC_ERR_EMPTY` (R206). -/
  | decErrEmpty
  /-- `DEC_BOUNDARY` (R201). -/
  | decBoundary
  /-- `DEC_LEFT` (R203). -/
  | decLeft
  /-- `DEC_RIGHT` (R204). -/
  | decRight
  /-- `DEC_ERR_SHORT` (R207). -/
  | decErrShort
  /-- `SINK_ACCEPT` (R214). -/
  | sinkAccept
  /-- `BUSERR_SIZE_NARROW`: an 8-bit (`half = false`) or 16-bit (`half = true`) access (R255). -/
  | buserrSizeNarrow (half : Bool) (unit : BusUnit) (we : Bool) (off : Byte)
  /-- `BUSERR_SIZE_NONE`: `SIZE = 3` (R255). -/
  | buserrSizeNone (unit : BusUnit) (we : Bool) (off : Byte)
  /-- `BUSERR_ALIGN_ODD`: a 32-bit access at an odd offset (R255). -/
  | buserrAlignOdd (unit : BusUnit) (we : Bool) (off : Byte)
  /-- `BUSERR_ALIGN_HALF`: a 32-bit access at an offset that is 2 modulo 4 (R255). -/
  | buserrAlignHalf (unit : BusUnit) (we : Bool) (off : Byte)
  /-- `RD_CTU_CTRL` (R230). -/
  | rdCtuCtrl
  /-- `WR_CTU_CTRL d`: the start request (R232). -/
  | wrCtuCtrl (d : Reg)
  /-- `RD_CTU_STATUS` (R231). -/
  | rdCtuStatus
  /-- `WR_CTU_STATUS d`: a read-only register (R240). -/
  | wrCtuStatus (d : Reg)
  /-- `RD_CTU_CLKDIV` (R233). -/
  | rdCtuClkdiv
  /-- `WR_CTU_CLKDIV d` (R234). -/
  | wrCtuClkdiv (d : Reg)
  /-- `RD_CTU_CNT_A` (R235). -/
  | rdCtuCntA
  /-- `WR_CTU_CNT_A d`: a read-only register (R240). -/
  | wrCtuCntA (d : Reg)
  /-- `RD_CTU_CNT_B` (R236). -/
  | rdCtuCntB
  /-- `WR_CTU_CNT_B d`: a read-only register (R240). -/
  | wrCtuCntB (d : Reg)
  /-- `RD_CTU_INTR` (R239). -/
  | rdCtuIntr
  /-- `WR_CTU_INTR d`: acknowledge completions (R237). -/
  | wrCtuIntr (d : Reg)
  /-- `RD_CTU_INTE` (R241). -/
  | rdCtuInte
  /-- `WR_CTU_INTE d` (R238). -/
  | wrCtuInte (d : Reg)
  /-- `RD_CTU_INTS` (R242). -/
  | rdCtuInts
  /-- `WR_CTU_INTS d`: a read-only register (R240). -/
  | wrCtuInts (d : Reg)
  /-- `RD_CTU_CONFIG` (R243). -/
  | rdCtuConfig
  /-- `WR_CTU_CONFIG d`: a read-only register (R240). -/
  | wrCtuConfig (d : Reg)
  /-- `RD_RDU_RSTATUS` (R244). -/
  | rdRduRstatus
  /-- `WR_RDU_RSTATUS d`: clear the sticky error bits (R246). -/
  | wrRduRstatus (d : Reg)
  /-- `RD_RDU_SYNC_OFFSET` (R245). -/
  | rdRduSyncOffset
  /-- `WR_RDU_SYNC_OFFSET d`: a read-only register (R254). -/
  | wrRduSyncOffset (d : Reg)
  /-- `RD_RDU_SYNC_ERR_CNT` (R247). -/
  | rdRduSyncErrCnt
  /-- `WR_RDU_SYNC_ERR_CNT d`: a read-only register (R254). -/
  | wrRduSyncErrCnt (d : Reg)
  /-- `RD_RDU_RD_ERR_CNT` (R248). -/
  | rdRduRdErrCnt
  /-- `WR_RDU_RD_ERR_CNT d`: a read-only register (R254). -/
  | wrRduRdErrCnt (d : Reg)
  /-- `RD_RDU_BOUNDARY_CNT` (R249). -/
  | rdRduBoundaryCnt
  /-- `WR_RDU_BOUNDARY_CNT d`: a read-only register (R254). -/
  | wrRduBoundaryCnt (d : Reg)
  /-- `RD_RDU_FRAME_CNT` (R251). -/
  | rdRduFrameCnt
  /-- `WR_RDU_FRAME_CNT d`: a read-only register (R254). -/
  | wrRduFrameCnt (d : Reg)
  /-- `RD_RDU_OUT_FRAME` (R252). -/
  | rdRduOutFrame
  /-- `WR_RDU_OUT_FRAME d`: a read-only register (R254). -/
  | wrRduOutFrame (d : Reg)
  /-- `RD_RDU_LEFT_HOLD` (R253). -/
  | rdRduLeftHold
  /-- `WR_RDU_LEFT_HOLD d`: a read-only register (R254). -/
  | wrRduLeftHold (d : Reg)
  /-- `RD_RESERVED`: an aligned read of an offset no register has (R250). -/
  | rdReserved (unit : BusUnit) (off : Byte)
  /-- `WR_RESERVED d`: an aligned write to an offset no register has (R250). -/
  | wrReserved (unit : BusUnit) (off : Byte) (d : Reg)
  /-- `RESET_CTU` (R300). -/
  | resetCtu
  /-- `RESET_RDU` (R301). -/
  | resetRdu
deriving DecidableEq, Repr, Inhabited

/-- The generic forms of a trace line (R109): an agent, and what the scheduler or a draw supplies. The
dispatch word is then built from the state and picks the one row the state allows. The byte `c` of a
link choice is read by CORRUPT and INSERT only. -/
inductive Choice
  | conv (v : BitVec 12)
  | tx
  | uart
  | link (code : LinkCode) (c : Byte)
  | rx
  | sink
deriving DecidableEq, Repr, Inhabited

/-- One line of a trace (R109). `row` names a row by a dispatch word of a format with the operand the
word does not hold (bus accesses and resets are written so); `agent` is a generic form. -/
inductive TraceLine
  | row (f : Format) (w : DispatchBits) (arg : Reg)
  | agent (c : Choice)
deriving DecidableEq, Repr, Inhabited

/-- What the decoder is given: a format, a dispatch word of it, and the operand slot (log entry 6). -/
structure Request where
  fmt : Format
  word : DispatchBits
  arg : Reg
deriving DecidableEq, Repr, Inhabited

end Sys2Proof
end

