-- ==== Sys2Proof/Config.lean ====
section
/-!
DEFINITION. The build parameters of the block (R4, R7, R11) and the free values: what a buffer cell
holds before its first write since CTU reset, and which step the scheduler takes next.
-/

namespace Sys2Proof

/-- The build parameters: `N_LOG2` (R4), `SENTINEL` (R7), `UART_DEPTH` and `LINK_LOSSY` (R11). They are
fixed when the block is built: no step writes them. -/
structure Params where
  nLog2 : BitVec 4
  sentinel : Half
  uartDepth : Nat
  linkLossy : Bool
deriving DecidableEq, Repr, Inhabited

/-- The constraints on the parameters: `1 <= N_LOG2 <= 15` (R4; 15 is the most that 4 bits hold),
`SENTINEL != 0xFFFF` (R7), `UART_DEPTH >= 1` (R11). -/
def Params.valid (p : Params) : Bool :=
  p.nLog2 != 0 && p.sentinel != 0xFFFF && decide (1 ≤ p.uartDepth)

/-- The spec's defaults: `SENTINEL = 0x7FFE` (R7), `UART_DEPTH = 1` and `LINK_LOSSY = false` (R11).
`N_LOG2` has no default in the spec; 2 is a DESIGN CHOICE (log entry 2). -/
def Params.default : Params where
  nLog2 := 2
  sentinel := 0x7FFE
  uartDepth := 1
  linkLossy := false

/-- FREE VALUE (log entry 4): the byte at an address of the buffer arenas that nothing has written since
the CTU reset counted by the first argument (R27, R61, R300). -/
opaque Config.unwrittenByte : (epoch addr : Nat) → Byte

/-- FREE VALUE (log entry 5): the line the scheduler offers at its `n`-th free choice. Any enabled step of
any agent may be the next step of the block (R3), and every draw may take any value (R121, R83). -/
opaque Config.schedule : (n : Nat) → TraceLine

end Sys2Proof
end

