-- ==== Sys2Proof/WellFormed.lean ====
section
/-!
DEFINITION. Which terms of `Instr` stand for an instruction: the operand of each row lies among the words
that the row is the FIRST to match (R104, R105).
-/

namespace Sys2Proof

/-- The offsets that R101 (CTU) and R102 (RDU) name. -/
def namedOffset : BusUnit → Byte → Bool
  | .ctu, off => off &&& 3 == 0 && decide (off ≤ 0x20)
  | .rdu, off => off &&& 3 == 0 && decide (off ≤ 0x1C)

/-- An aligned offset that no register has (R250). -/
def reservedOffset (unit : BusUnit) (off : Byte) : Bool :=
  off &&& 3 == 0 && !namedOffset unit off

/-- `i` is the instruction of some dispatch word and operand: `ENC_PASS` stands for every word but
`0xFFFF` (R91), the alignment rows for their residues modulo 4, and the reserved rows for aligned offsets
with no register (R104). Every other operand is free. -/
def Instr.wellFormed : Instr → Bool
  | .encPass w => w != 0xFFFF
  | .buserrAlignOdd _ _ off => off &&& 1 == 1
  | .buserrAlignHalf _ _ off => off &&& 3 == 2
  | .rdReserved unit off => reservedOffset unit off
  | .wrReserved unit off _ => reservedOffset unit off
  | .conv _ | .convComplete _ | .txSelectA | .txSelectB | .txPollNone | .txLo | .txHi | .txHiLast
  | .txTerm0 | .txTerm1 | .encSubst | .uartShift | .linkDeliver | .linkTimeout | .linkTimeoutLossy
  | .linkSkip | .linkDrop | .linkCorrupt _ | .linkInsert _ | .syncHuntFf | .syncHuntOther | .syncLock
  | .syncResume | .syncErrEvent | .decFirst | .decErrEmpty | .decBoundary | .decLeft | .decRight
  | .decErrShort | .sinkAccept | .buserrSizeNarrow _ _ _ _ | .buserrSizeNone _ _ _
  | .rdCtuCtrl | .wrCtuCtrl _ | .rdCtuStatus | .wrCtuStatus _ | .rdCtuClkdiv | .wrCtuClkdiv _
  | .rdCtuCntA | .wrCtuCntA _ | .rdCtuCntB | .wrCtuCntB _ | .rdCtuIntr | .wrCtuIntr _
  | .rdCtuInte | .wrCtuInte _ | .rdCtuInts | .wrCtuInts _ | .rdCtuConfig | .wrCtuConfig _
  | .rdRduRstatus | .wrRduRstatus _ | .rdRduSyncOffset | .wrRduSyncOffset _
  | .rdRduSyncErrCnt | .wrRduSyncErrCnt _ | .rdRduRdErrCnt | .wrRduRdErrCnt _
  | .rdRduBoundaryCnt | .wrRduBoundaryCnt _ | .rdRduFrameCnt | .wrRduFrameCnt _
  | .rdRduOutFrame | .wrRduOutFrame _ | .rdRduLeftHold | .wrRduLeftHold _
  | .resetCtu | .resetRdu => true

end Sys2Proof
end

