-- ==== Sys2Proof/Decode.lean ====
section
/-!
DEFINITION. The decoder: from a format, a dispatch word and the operand slot to the instruction of the
first row that matches, or a refusal by name (R104, R105, R107, R111). After it the encoder, the tests'
entry point `decodeTableWord`, and the field helpers both use.
-/

namespace Sys2Proof

/-! ## Fields of the bus operation word (R103) -/

/-- Field `UNIT`, bit 9. -/
def busUnitOf (w : DispatchBits) : BusUnit :=
  if w.getLsbD 9 then .rdu else .ctu

/-- Field `OFF`, bits 7..0. -/
def busOff (w : DispatchBits) : Byte :=
  w.setWidth 8

/-- Bit `UNIT` of a unit. -/
def busUnitBit : BusUnit → BitVec 1
  | .ctu => 0
  | .rdu => 1

/-- The bus operation word `SIZE, UNIT, WE, OFF` (R103). -/
def busWord (size : BitVec 2) (unit : BusUnit) (we : Bool) (off : Byte) : DispatchBits :=
  (size ++ (busUnitBit unit ++ (BitVec.ofBool we ++ off))).setWidth 24

/-! ## The decoder -/

/-- How many bits a word of the format has (R106). -/
def formatWidth : Format → Nat
  | .cap => 2
  | .tx => 7
  | .enc => 16
  | .uart => 1
  | .link => 8
  | .rx => 23
  | .sink => 1
  | .bus => 12
  | .rst => 1

/-- Why a word is refused. -/
inductive DecodeError
  /-- A bit above the format's width is set: not a word of the format (R106). -/
  | tooWide
  /-- A word R107 says must be refused and never given a meaning. -/
  | reservedWord
  /-- No row of the format matches: the agent has no step (R105). -/
  | noRow
deriving DecidableEq, Repr, Inhabited

/-- What the decoder answers. -/
inductive Decoded
  | ok (i : Instr)
  | bad (e : DecodeError)
deriving DecidableEq, Repr, Inhabited

/-- A row of the opcode map: it matches the words `w` with `w &&& mask = pat` (R105), and builds its
instruction from the word and the operand slot. -/
structure Row where
  mask : DispatchBits
  pat : DispatchBits
  build : DispatchBits → Reg → Instr

/-- The rows of format `cap`, in the order of the opcode map (R111; R130, R133). -/
def capRows : List Row :=
  [ ⟨0x3, 0x1, fun _ d => .conv (d.setWidth 12)⟩
  , ⟨0x3, 0x3, fun _ d => .convComplete (d.setWidth 12)⟩ ]

/-- The rows of format `tx`, in the order of the opcode map (R111; R150 to R156). -/
def txRows : List Row :=
  [ ⟨0x0F, 0x08, fun _ _ => .txSelectA⟩
  , ⟨0x1F, 0x10, fun _ _ => .txSelectB⟩
  , ⟨0x1F, 0x00, fun _ _ => .txPollNone⟩
  , ⟨0x27, 0x01, fun _ _ => .txLo⟩
  , ⟨0x67, 0x02, fun _ _ => .txHi⟩
  , ⟨0x67, 0x42, fun _ _ => .txHiLast⟩
  , ⟨0x27, 0x03, fun _ _ => .txTerm0⟩
  , ⟨0x27, 0x04, fun _ _ => .txTerm1⟩ ]

/-- The rows of format `enc`, in the order of the opcode map (R111; R91). -/
def encRows : List Row :=
  [ ⟨0xFFFF, 0xFFFF, fun _ _ => .encSubst⟩
  , ⟨0x0000, 0x0000, fun w _ => .encPass (w.setWidth 16)⟩ ]

/-- The rows of format `uart`, in the order of the opcode map (R111; R165). -/
def uartRows : List Row :=
  [ ⟨0x1, 0x1, fun _ _ => .uartShift⟩ ]

/-- The rows of format `link`, in the order of the opcode map (R111; R80 to R83). -/
def linkRows : List Row :=
  [ ⟨0x8F, 0x08, fun _ _ => .linkDeliver⟩
  , ⟨0x8F, 0x01, fun _ _ => .linkTimeout⟩
  , ⟨0xC7, 0x41, fun _ _ => .linkTimeoutLossy⟩
  , ⟨0xBF, 0x2A, fun _ _ => .linkSkip⟩
  , ⟨0xCF, 0x4B, fun _ _ => .linkDrop⟩
  , ⟨0xCF, 0x4C, fun _ d => .linkCorrupt (d.setWidth 8)⟩
  , ⟨0xC7, 0x45, fun _ d => .linkInsert (d.setWidth 8)⟩ ]

/-- The rows of format `rx`, in the order of the opcode map (R111; R180 to R184, R200 to R207). -/
def rxRows : List Row :=
  [ ⟨0x6007FF, 0x4000FF, fun _ _ => .syncHuntFf⟩
  , ⟨0x600700, 0x400000, fun _ _ => .syncHuntOther⟩
  , ⟨0x6007FF, 0x4002FF, fun _ _ => .syncLock⟩
  , ⟨0x600700, 0x400200, fun _ _ => .syncResume⟩
  , ⟨0x600500, 0x400100, fun _ _ => .syncErrEvent⟩
  , ⟨0x600F00, 0x400400, fun _ _ => .decFirst⟩
  , ⟨0x600F00, 0x400500, fun _ _ => .decErrEmpty⟩
  , ⟨0x7FEFFF, 0x5FECFF, fun _ _ => .decBoundary⟩
  , ⟨0x601F00, 0x400C00, fun _ _ => .decLeft⟩
  , ⟨0x601F00, 0x401C00, fun _ _ => .decRight⟩
  , ⟨0x600F00, 0x400D00, fun _ _ => .decErrShort⟩ ]

/-- The rows of format `sink`, in the order of the opcode map (R111; R214). -/
def sinkRows : List Row :=
  [ ⟨0x1, 0x1, fun _ _ => .sinkAccept⟩ ]

/-- The rows of format `bus`, in the order of the opcode map (R111; R104, R230 to R255). -/
def busRows : List Row :=
  [ ⟨0x800, 0x000, fun w _ => .buserrSizeNarrow (w.getLsbD 10) (busUnitOf w) (w.getLsbD 8) (busOff w)⟩
  , ⟨0xC00, 0xC00, fun w _ => .buserrSizeNone (busUnitOf w) (w.getLsbD 8) (busOff w)⟩
  , ⟨0x001, 0x001, fun w _ => .buserrAlignOdd (busUnitOf w) (w.getLsbD 8) (busOff w)⟩
  , ⟨0x003, 0x002, fun w _ => .buserrAlignHalf (busUnitOf w) (w.getLsbD 8) (busOff w)⟩
  , ⟨0xFFF, 0x800, fun _ _ => .rdCtuCtrl⟩
  , ⟨0xFFF, 0x900, fun _ d => .wrCtuCtrl d⟩
  , ⟨0xFFF, 0x804, fun _ _ => .rdCtuStatus⟩
  , ⟨0xFFF, 0x904, fun _ d => .wrCtuStatus d⟩
  , ⟨0xFFF, 0x808, fun _ _ => .rdCtuClkdiv⟩
  , ⟨0xFFF, 0x908, fun _ d => .wrCtuClkdiv d⟩
  , ⟨0xFFF, 0x80C, fun _ _ => .rdCtuCntA⟩
  , ⟨0xFFF, 0x90C, fun _ d => .wrCtuCntA d⟩
  , ⟨0xFFF, 0x810, fun _ _ => .rdCtuCntB⟩
  , ⟨0xFFF, 0x910, fun _ d => .wrCtuCntB d⟩
  , ⟨0xFFF, 0x814, fun _ _ => .rdCtuIntr⟩
  , ⟨0xFFF, 0x914, fun _ d => .wrCtuIntr d⟩
  , ⟨0xFFF, 0x818, fun _ _ => .rdCtuInte⟩
  , ⟨0xFFF, 0x918, fun _ d => .wrCtuInte d⟩
  , ⟨0xFFF, 0x81C, fun _ _ => .rdCtuInts⟩
  , ⟨0xFFF, 0x91C, fun _ d => .wrCtuInts d⟩
  , ⟨0xFFF, 0x820, fun _ _ => .rdCtuConfig⟩
  , ⟨0xFFF, 0x920, fun _ d => .wrCtuConfig d⟩
  , ⟨0xFFF, 0xA00, fun _ _ => .rdRduRstatus⟩
  , ⟨0xFFF, 0xB00, fun _ d => .wrRduRstatus d⟩
  , ⟨0xFFF, 0xA04, fun _ _ => .rdRduSyncOffset⟩
  , ⟨0xFFF, 0xB04, fun _ d => .wrRduSyncOffset d⟩
  , ⟨0xFFF, 0xA08, fun _ _ => .rdRduSyncErrCnt⟩
  , ⟨0xFFF, 0xB08, fun _ d => .wrRduSyncErrCnt d⟩
  , ⟨0xFFF, 0xA0C, fun _ _ => .rdRduRdErrCnt⟩
  , ⟨0xFFF, 0xB0C, fun _ d => .wrRduRdErrCnt d⟩
  , ⟨0xFFF, 0xA10, fun _ _ => .rdRduBoundaryCnt⟩
  , ⟨0xFFF, 0xB10, fun _ d => .wrRduBoundaryCnt d⟩
  , ⟨0xFFF, 0xA14, fun _ _ => .rdRduFrameCnt⟩
  , ⟨0xFFF, 0xB14, fun _ d => .wrRduFrameCnt d⟩
  , ⟨0xFFF, 0xA18, fun _ _ => .rdRduOutFrame⟩
  , ⟨0xFFF, 0xB18, fun _ d => .wrRduOutFrame d⟩
  , ⟨0xFFF, 0xA1C, fun _ _ => .rdRduLeftHold⟩
  , ⟨0xFFF, 0xB1C, fun _ d => .wrRduLeftHold d⟩
  , ⟨0x100, 0x000, fun w _ => .rdReserved (busUnitOf w) (busOff w)⟩
  , ⟨0x100, 0x100, fun w d => .wrReserved (busUnitOf w) (busOff w) d⟩ ]

/-- The rows of format `rst`, in the order of the opcode map (R111; R300, R301). -/
def rstRows : List Row :=
  [ ⟨0x1, 0x0, fun _ _ => .resetCtu⟩
  , ⟨0x1, 0x1, fun _ _ => .resetRdu⟩ ]

/-- The rows of a format (R111). -/
def formatRows : Format → List Row
  | .cap => capRows
  | .tx => txRows
  | .enc => encRows
  | .uart => uartRows
  | .link => linkRows
  | .rx => rxRows
  | .sink => sinkRows
  | .bus => busRows
  | .rst => rstRows

/-- The instruction of the first row that matches (R105). -/
def firstMatch : List Row → DispatchBits → Reg → Option Instr
  | [], _, _ => none
  | r :: rest, w, arg => if w &&& r.mask = r.pat then some (r.build w arg) else firstMatch rest w arg

/-- The words R107 lists (log entry 13): `tx` with `TX_ST` 5 to 7, `rx` with `SST = 3`, `link` with `CODE` 6 or 7 or with
bit 7 set. -/
def isReservedWord (f : Format) (w : DispatchBits) : Bool :=
  match f with
  | .tx => decide (5 ≤ w &&& 7)
  | .rx => w &&& 0x600 == 0x600
  | .link => decide (6 ≤ w &&& 7) || w.getLsbD 7
  | .cap | .enc | .uart | .sink | .bus | .rst => false

/-- The decoder, total on every format, word and operand. -/
def decode (f : Format) (w : DispatchBits) (arg : Reg) : Decoded :=
  if w >>> formatWidth f ≠ 0 then .bad .tooWide
  else if isReservedWord f w then .bad .reservedWord
  else
    match firstMatch (formatRows f) w arg with
    | some i => .ok i
    | none => .bad .noRow

/-- The decoder on a request. -/
def decodeRequest (r : Request) : Decoded :=
  decode r.fmt r.word r.arg

/-! ## The encoder -/

/-- The format, word and operand of an instruction, by the rows of R111: a bit that a row's mask leaves
out and that holds no operand is 0, but for `WNE` of LINK_TIMEOUT_LOSSY: with `WNE = 0` its word is one that
LINK_TIMEOUT matches first (R105). -/
def encode : Instr → Request
  | .conv v => ⟨.cap, 0x1, v.setWidth 32⟩
  | .convComplete v => ⟨.cap, 0x3, v.setWidth 32⟩
  | .txSelectA => ⟨.tx, 0x08, 0⟩
  | .txSelectB => ⟨.tx, 0x10, 0⟩
  | .txPollNone => ⟨.tx, 0x00, 0⟩
  | .txLo => ⟨.tx, 0x01, 0⟩
  | .txHi => ⟨.tx, 0x02, 0⟩
  | .txHiLast => ⟨.tx, 0x42, 0⟩
  | .txTerm0 => ⟨.tx, 0x03, 0⟩
  | .txTerm1 => ⟨.tx, 0x04, 0⟩
  | .encSubst => ⟨.enc, 0xFFFF, 0⟩
  | .encPass w => ⟨.enc, w.setWidth 24, 0⟩
  | .uartShift => ⟨.uart, 0x1, 0⟩
  | .linkDeliver => ⟨.link, 0x08, 0⟩
  | .linkTimeout => ⟨.link, 0x01, 0⟩
  | .linkTimeoutLossy => ⟨.link, 0x49, 0⟩
  | .linkSkip => ⟨.link, 0x2A, 0⟩
  | .linkDrop => ⟨.link, 0x4B, 0⟩
  | .linkCorrupt c => ⟨.link, 0x4C, c.setWidth 32⟩
  | .linkInsert c => ⟨.link, 0x45, c.setWidth 32⟩
  | .syncHuntFf => ⟨.rx, 0x4000FF, 0⟩
  | .syncHuntOther => ⟨.rx, 0x400000, 0⟩
  | .syncLock => ⟨.rx, 0x4002FF, 0⟩
  | .syncResume => ⟨.rx, 0x400200, 0⟩
  | .syncErrEvent => ⟨.rx, 0x400100, 0⟩
  | .decFirst => ⟨.rx, 0x400400, 0⟩
  | .decErrEmpty => ⟨.rx, 0x400500, 0⟩
  | .decBoundary => ⟨.rx, 0x5FECFF, 0⟩
  | .decLeft => ⟨.rx, 0x400C00, 0⟩
  | .decRight => ⟨.rx, 0x401C00, 0⟩
  | .decErrShort => ⟨.rx, 0x400D00, 0⟩
  | .sinkAccept => ⟨.sink, 0x1, 0⟩
  | .buserrSizeNarrow half unit we off => ⟨.bus, busWord (if half then 1 else 0) unit we off, 0⟩
  | .buserrSizeNone unit we off => ⟨.bus, busWord 3 unit we off, 0⟩
  | .buserrAlignOdd unit we off => ⟨.bus, busWord 2 unit we off, 0⟩
  | .buserrAlignHalf unit we off => ⟨.bus, busWord 2 unit we off, 0⟩
  | .rdCtuCtrl => ⟨.bus, busWord 2 .ctu false 0x00, 0⟩
  | .wrCtuCtrl d => ⟨.bus, busWord 2 .ctu true 0x00, d⟩
  | .rdCtuStatus => ⟨.bus, busWord 2 .ctu false 0x04, 0⟩
  | .wrCtuStatus d => ⟨.bus, busWord 2 .ctu true 0x04, d⟩
  | .rdCtuClkdiv => ⟨.bus, busWord 2 .ctu false 0x08, 0⟩
  | .wrCtuClkdiv d => ⟨.bus, busWord 2 .ctu true 0x08, d⟩
  | .rdCtuCntA => ⟨.bus, busWord 2 .ctu false 0x0C, 0⟩
  | .wrCtuCntA d => ⟨.bus, busWord 2 .ctu true 0x0C, d⟩
  | .rdCtuCntB => ⟨.bus, busWord 2 .ctu false 0x10, 0⟩
  | .wrCtuCntB d => ⟨.bus, busWord 2 .ctu true 0x10, d⟩
  | .rdCtuIntr => ⟨.bus, busWord 2 .ctu false 0x14, 0⟩
  | .wrCtuIntr d => ⟨.bus, busWord 2 .ctu true 0x14, d⟩
  | .rdCtuInte => ⟨.bus, busWord 2 .ctu false 0x18, 0⟩
  | .wrCtuInte d => ⟨.bus, busWord 2 .ctu true 0x18, d⟩
  | .rdCtuInts => ⟨.bus, busWord 2 .ctu false 0x1C, 0⟩
  | .wrCtuInts d => ⟨.bus, busWord 2 .ctu true 0x1C, d⟩
  | .rdCtuConfig => ⟨.bus, busWord 2 .ctu false 0x20, 0⟩
  | .wrCtuConfig d => ⟨.bus, busWord 2 .ctu true 0x20, d⟩
  | .rdRduRstatus => ⟨.bus, busWord 2 .rdu false 0x00, 0⟩
  | .wrRduRstatus d => ⟨.bus, busWord 2 .rdu true 0x00, d⟩
  | .rdRduSyncOffset => ⟨.bus, busWord 2 .rdu false 0x04, 0⟩
  | .wrRduSyncOffset d => ⟨.bus, busWord 2 .rdu true 0x04, d⟩
  | .rdRduSyncErrCnt => ⟨.bus, busWord 2 .rdu false 0x08, 0⟩
  | .wrRduSyncErrCnt d => ⟨.bus, busWord 2 .rdu true 0x08, d⟩
  | .rdRduRdErrCnt => ⟨.bus, busWord 2 .rdu false 0x0C, 0⟩
  | .wrRduRdErrCnt d => ⟨.bus, busWord 2 .rdu true 0x0C, d⟩
  | .rdRduBoundaryCnt => ⟨.bus, busWord 2 .rdu false 0x10, 0⟩
  | .wrRduBoundaryCnt d => ⟨.bus, busWord 2 .rdu true 0x10, d⟩
  | .rdRduFrameCnt => ⟨.bus, busWord 2 .rdu false 0x14, 0⟩
  | .wrRduFrameCnt d => ⟨.bus, busWord 2 .rdu true 0x14, d⟩
  | .rdRduOutFrame => ⟨.bus, busWord 2 .rdu false 0x18, 0⟩
  | .wrRduOutFrame d => ⟨.bus, busWord 2 .rdu true 0x18, d⟩
  | .rdRduLeftHold => ⟨.bus, busWord 2 .rdu false 0x1C, 0⟩
  | .wrRduLeftHold d => ⟨.bus, busWord 2 .rdu true 0x1C, d⟩
  | .rdReserved unit off => ⟨.bus, busWord 2 unit false off, 0⟩
  | .wrReserved unit off d => ⟨.bus, busWord 2 unit true off, d⟩
  | .resetCtu => ⟨.rst, 0x0, 0⟩
  | .resetRdu => ⟨.rst, 0x1, 0⟩

/-! ## The table's words -/

/-- The formats whose words take `nbits` bits, or fill `nbits` whole bytes, in the order they are tried.
A word alone does not say its format (R105 is told it), so where several fit the first that has the word
is taken: log entry 7. -/
def formatsOfWidth (nbits : Nat) : List Format :=
  if nbits = 1 then [.uart, .sink, .rst]
  else if nbits = 2 then [.cap]
  else if nbits = 7 then [.tx]
  else if nbits ≤ 8 then [.link, .tx, .cap, .uart, .sink, .rst]
  else if nbits = 12 then [.bus]
  else if nbits ≤ 16 then [.bus, .enc]
  else [.rx]

/-- The first of the formats that decodes the word (operand slot 0), with what it decodes to. -/
def firstFormat : List Format → DispatchBits → Option (Format × Instr)
  | [], _ => none
  | f :: rest, w =>
    match decode f w 0 with
    | .ok i => some (f, i)
    | .bad _ => firstFormat rest w

/-- The format and instruction of the table's word `w` of `nbits` bits; none for a word of more than 24
bits, which no format has. -/
def tableWord (nbits w : Nat) : Option (Format × Instr) :=
  if w < 2 ^ 24 then firstFormat (formatsOfWidth nbits) (BitVec.ofNat 24 w) else none

/-- The instruction the decoder reads from the table's word `w` of `nbits` bits, with every operand bit
0. -/
def decodeTableWord (nbits w : Nat) : Option Instr :=
  (tableWord nbits w).map Prod.snd

end Sys2Proof
end

