-- ==== Sys2Proof/Machine/State.lean ====
section
/-!
DEFINITION. The state of the block (spec/10_state.md), its reset values (R300 to R303), and the reasons a
step can stop.
-/

namespace Sys2Proof.Machine

/-- The converter's two channels (R26, R120). -/
inductive Channel
  | ch0
  | ch1
deriving DecidableEq, Repr, Inhabited

/-- `TX_ST` (R31). -/
inductive TxSt
  | idle
  | dataLo
  | dataHi
  | term0
  | term1
deriving DecidableEq, Repr, Inhabited

/-- `SST` (R35). -/
inductive SyncSt
  | hunt
  | sawFf
  | synced
deriving DecidableEq, Repr, Inhabited

/-- `PHASE` (R36). -/
inductive Phase
  | left
  | right
deriving DecidableEq, Repr, Inhabited

/-- An RDU input event (R45). -/
inductive RxEvent
  | byte (b : Byte)
  | err
deriving DecidableEq, Repr, Inhabited

/-- The response a bus master received to its last access: `OK(data)` for a read, `OK` for a write,
`BUSERR` (spec/45_register_access.md, R255). `none` stands for no access yet. -/
inductive BusResp
  | none
  | okRead (r : Reg)
  | okWrite
  | busErr
deriving DecidableEq, Repr, Inhabited

/-- One value for each buffer: `READY[A]` and `READY[B]`, and so on. -/
structure PerBuf (α : Type) where
  a : α
  b : α
deriving DecidableEq, Repr, Inhabited

/-- The state of the capture/transmit unit. -/
structure Ctu where
  /-- `RUN` (R21). -/
  run : Bool
  /-- `CFG_ERR` (R22). -/
  cfgErr : Bool
  /-- `CLKDIV` (R23). -/
  clkdiv : Half
  /-- `ACT` (R24). -/
  act : Buf
  /-- `IDX` (R25); below `N` in every reachable state (R46 a; log entry 12). -/
  idx : Nat
  /-- `RR_CH` (R26). -/
  rrCh : Channel
  /-- The two buffer arenas `BUF[A]`, `BUF[B]` (R27, R60): the bytes written since CTU reset, by address, in
  the canonical form of `Memory.wf`. Log entry 3 says where the cells lie. -/
  mem : List Host.Cell
  /-- The model's own: how many CTU resets the free contents of unwritten cells have been drawn anew for
  (R300; log entry 4). -/
  bufEpoch : Nat
  /-- `READY[A]`, `READY[B]` (R28). -/
  ready : PerBuf Bool
  /-- `CNT[A]`, `CNT[B]` (R29). -/
  cnt : PerBuf Reg
  /-- `INTR[A]`, `INTR[B]` (R30). -/
  intr : PerBuf Bool
  /-- `INTE[A]`, `INTE[B]` (R30). -/
  inte : PerBuf Bool
  /-- `TX_ST` (R31). -/
  txSt : TxSt
  /-- `TX_BUF` (R31). -/
  txBuf : Buf
  /-- `TX_I` (R31); below `N` in every reachable state (R46 a; log entry 12). -/
  txI : Nat
  /-- `TX_WORD` (R31). -/
  txWord : Half
  /-- `UQ` (R32), oldest byte first. -/
  uq : List Byte
deriving DecidableEq, Repr

/-- The state of the receive/decode unit. -/
structure Rdu where
  /-- `RXQ` (R34), oldest event first. -/
  rxq : List RxEvent
  /-- `SST` (R35). -/
  sst : SyncSt
  /-- `PHASE` (R36). -/
  phase : Phase
  /-- `HAVE_LO` (R37). -/
  haveLo : Bool
  /-- `LO_BYTE` (R37). -/
  loByte : Byte
  /-- `LEFT_VAL` (R38), the bit pattern of an s16. -/
  leftVal : Half
  /-- `OUT_VALID` (R39). -/
  outValid : Bool
  /-- `OUT_L` (R39), the bit pattern of an s16. -/
  outL : Half
  /-- `OUT_R` (R39), the bit pattern of an s16. -/
  outR : Half
  /-- `SYNC_OFFSET` (R40). -/
  syncOffset : Reg
  /-- `SYNC_ERR` (R41). -/
  syncErr : Bool
  /-- `RD_ERR` (R41). -/
  rdErr : Bool
  /-- `SYNC_ERR_CNT` (R42). -/
  syncErrCnt : Reg
  /-- `RD_ERR_CNT` (R42). -/
  rdErrCnt : Reg
  /-- `BOUNDARY_CNT` (R42). -/
  boundaryCnt : Reg
  /-- `FRAME_CNT` (R42). -/
  frameCnt : Reg
  /-- `RX_OPEN` (R43). -/
  rxOpen : Bool
deriving DecidableEq, Repr

/-- The state of the block, of the link and of what is delivered downstream, with the trace that the
environment has still to play. -/
structure State where
  /-- The build parameters (R4, R7, R11): no step writes them. -/
  params : Params
  ctu : Ctu
  /-- `WIRE` (R33), oldest byte first. -/
  wire : List Byte
  rdu : Rdu
  /-- `PCM_OUT` (R44), oldest byte first. -/
  pcmOut : List Byte
  /-- The model's own: the response to the CTU bus master's last access (log entry 9). -/
  ctuBus : BusResp
  /-- The model's own: the response to the RDU bus master's last access (log entry 9). -/
  rduBus : BusResp
  /-- The model's own: the value the encode function gave when an `enc` row was last evaluated as a step
  (log entry 10). -/
  encOut : Half
  /-- The model's own: the trace lines still to play (R109; log entry 1). -/
  trace : List TraceLine
  /-- The model's own: how many free choices of the scheduler have been taken (log entry 5). -/
  tick : Nat
deriving DecidableEq, Repr

/-- Why a step faults. -/
inductive Fault
  /-- Raised by the buffer read and write operations (`State.bufWrite?`, `State.bufRead?`, used by CONV,
  CONV_COMPLETE and TX_LO) for an index of `N` or more: the arena has no such cell (R60). Safe: R46 (a)
  says that no reachable state has such an index. -/
  | noSuchCell
deriving DecidableEq, Repr

/-- Why a step is refused. -/
inductive Refusal
  /-- Raised by an arm of `exec` whose instruction has no meaning yet; no arm does. Safe. -/
  | notModelled (mnemonic : String)
  /-- Raised by the meaning of an agent's row whose guard is false: the agent has no such step in this
  state, and a trace line that names it is ill-formed (R105, R109). Safe: no behaviour is added. -/
  | notEnabled
  /-- Raised by `State.runLine` where the decoder refuses the line's dispatch word: no row matches (R105),
  the word is one R107 says to refuse, or it is too wide for its format. Safe. -/
  | badWord (e : DecodeError)
deriving DecidableEq, Repr

/-- The outcome of a step. -/
abbrev Outcome := Host.Outcome State Fault Refusal

/-- The CTU at reset (R300): `mem` lists nothing, so every cell reads as a free value of the epoch. -/
def Ctu.atReset (epoch : Nat) : Ctu where
  run := false
  cfgErr := false
  clkdiv := 0
  act := .a
  idx := 0
  rrCh := .ch0
  mem := []
  bufEpoch := epoch
  ready := ⟨false, false⟩
  cnt := ⟨0, 0⟩
  intr := ⟨false, false⟩
  inte := ⟨false, false⟩
  txSt := .idle
  txBuf := .a
  txI := 0
  txWord := 0
  uq := []

/-- The RDU at reset (R301). -/
def Rdu.atReset : Rdu where
  rxq := []
  sst := .hunt
  phase := .left
  haveLo := false
  loByte := 0
  leftVal := 0
  outValid := false
  outL := 0
  outR := 0
  syncOffset := 0
  syncErr := false
  rdErr := false
  syncErrCnt := 0
  rdErrCnt := 0
  boundaryCnt := 0
  frameCnt := 0
  rxOpen := false

/-- Power-on of a block built with the parameters `p` (R302): both units reset, `WIRE` and `PCM_OUT`
empty. The model's own fields start empty or 0 (log entry 18). -/
def State.powerOn (p : Params) : State where
  params := p
  ctu := Ctu.atReset 0
  wire := []
  rdu := Rdu.atReset
  pcmOut := []
  ctuBus := .none
  rduBus := .none
  encOut := 0
  trace := []
  tick := 0

/-- The machine right after reset: power-on of the block with the default parameters (R302; log entry 2). -/
def State.reset : State :=
  State.powerOn Params.default

end Sys2Proof.Machine
end

