-- ==== Sys2Proof/Machine/Ops.lean ====
section
/-!
DEFINITION. The named operations over the state: the buffer arenas, the queues, the guards of agent steps,
the recording of an error (the block's only form of an exception, R280, R290), the acknowledgements (its
only form of a return from one, R291), and the bus responses.
-/

namespace Sys2Proof.Machine

/-! ## Parameters and names -/

/-- `N = 2^N_LOG2` (R4). -/
def bufLen (p : Params) : Nat :=
  2 ^ p.nLog2.toNat

/-- `other(A) = B`, `other(B) = A` (spec/00_scope.md section 5). -/
def otherBuf : Buf → Buf
  | .a => .b
  | .b => .a

/-- `1 - RR_CH` (R122). -/
def otherChannel : Channel → Channel
  | .ch0 => .ch1
  | .ch1 => .ch0

/-- The value for buffer `x`. -/
def PerBuf.get {α : Type} (p : PerBuf α) : Buf → α
  | .a => p.a
  | .b => p.b

/-- The pair with the value for buffer `x` replaced. -/
def PerBuf.set {α : Type} (p : PerBuf α) (x : Buf) (v : α) : PerBuf α :=
  match x with
  | .a => ⟨v, p.b⟩
  | .b => ⟨p.a, v⟩

/-! ## The memory of the buffer arenas -/

/-- The byte listed at an address. An unlisted address reads as NO value here: nothing has written it since
CTU reset (log entry 4). -/
def Memory.lookup : List Host.Cell → Nat → Option Byte
  | [], _ => none
  | (k, v) :: rest, a => if k = a then some v else Memory.lookup rest a

/-- The list with byte `v` at address `a`, in place of what was listed there. -/
def Memory.write : List Host.Cell → Nat → Byte → List Host.Cell
  | [], a, v => [(a, v)]
  | (k, u) :: rest, a, v =>
    if a < k then (a, v) :: (k, u) :: rest
    else if a = k then (a, v) :: rest
    else (k, u) :: Memory.write rest a v

/-- The canonical form: addresses strictly rising. An unlisted address has no value, so no entry can equal
what one reads as. -/
def Memory.wf : List Host.Cell → Bool
  | [] => true
  | [_] => true
  | c :: d :: rest => decide (c.1 < d.1) && Memory.wf (d :: rest)

/-- The base address of a buffer: a multiple of `2N`, as R60 asks of a byte-addressed realisation. That `A`
is at 0 and `B` at `2N` is a DESIGN CHOICE (log entry 3). -/
def bufBase (p : Params) : Buf → Nat
  | .a => 0
  | .b => 2 * bufLen p

/-- The address of cell `i` of buffer `x`: `base_x + 2i` (R60). -/
def cellAddr (p : Params) (x : Buf) (i : Nat) : Nat :=
  bufBase p x + 2 * i

/-- The byte at an arena address: the one listed, or the free value of the epoch (R27, R61; log entry 4). -/
def State.readByte (s : State) (a : Nat) : Byte :=
  (Memory.lookup s.ctu.mem a).getD (Config.unwrittenByte s.ctu.bufEpoch a)

/-- The cell `BUF[x][i]`: its low byte at the lower address (log entry 3). -/
def State.readCell (s : State) (x : Buf) (i : Nat) : Half :=
  s.readByte (cellAddr s.params x i + 1) ++ s.readByte (cellAddr s.params x i)

/-- `BufRead(x, i)` (R61); none for an index the arena has no cell for (R60). -/
def State.bufRead? (s : State) (x : Buf) (i : Nat) : Option Half :=
  if i < bufLen s.params then some (s.readCell x i) else none

/-- The two byte writes that store a 16-bit cell at `addr`: its low byte at the lower address (log entry 3). -/
def Memory.writeHalf (m : List Host.Cell) (addr : Nat) (v : Half) : List Host.Cell :=
  Memory.write (Memory.write m addr (v.setWidth 8)) (addr + 1) (v.extractLsb' 8 8)

/-- `BufWrite(x, i, v)` (R61); none for an index the arena has no cell for (R60). -/
def State.bufWrite? (s : State) (x : Buf) (i : Nat) (v : Half) : Option State :=
  if i < bufLen s.params then
    some { s with ctu.mem := Memory.writeHalf s.ctu.mem (cellAddr s.params x i) v }
  else none

/-- `BUF[x][i]` has been written since CTU reset. -/
def State.cellWritten (s : State) (x : Buf) (i : Nat) : Bool :=
  (Memory.lookup s.ctu.mem (cellAddr s.params x i)).isSome &&
    (Memory.lookup s.ctu.mem (cellAddr s.params x i + 1)).isSome

/-! ## Guards -/

/-- A step with the guard `g` (spec/00_scope.md section 5): where it is false the agent has no such step,
and the line that names it is refused (R105, R109; log entry 11). -/
def onlyWhen (g : Prop) [Decidable g] (o : Outcome) : Outcome :=
  if g then o else .refused .notEnabled

/-- `|UQ|` has reached `UART_DEPTH`: bit `UQFULL` (R106). It never exceeds it in a reachable state (R46 e). -/
def State.uqFull (s : State) : Bool :=
  decide (s.params.uartDepth ≤ s.ctu.uq.length)

/-- `IDX = N - 1`: bit `LAST` of a `cap` word (R106). -/
def State.capLast (s : State) : Bool :=
  decide (s.ctu.idx = bufLen s.params - 1)

/-- `TX_I = N - 1`: bit `LAST` of a `tx` word (R106). -/
def State.txLast (s : State) : Bool :=
  decide (s.ctu.txI = bufLen s.params - 1)

/-- A receiver step on a byte: `RXQ` is not empty, its head is `Byte(b)`, and the output register is empty
(R185, R205). -/
def onByte (s : State) (k : Byte → Outcome) : Outcome :=
  match s.rdu.outValid, s.rdu.rxq with
  | false, .byte b :: _ => k b
  | _, _ => .refused .notEnabled

/-- A receiver step on an `Err` event (R185, R205). -/
def onErr (s : State) (o : Outcome) : Outcome :=
  match s.rdu.outValid, s.rdu.rxq with
  | false, .err :: _ => o
  | _, _ => .refused .notEnabled

/-! ## Queues -/

/-- `push(UQ, x)` (R32). -/
def State.pushUq (s : State) (x : Byte) : State :=
  { s with ctu.uq := s.ctu.uq ++ [x] }

/-- `push(RXQ, e)` (R34). -/
def State.pushRxq (s : State) (e : RxEvent) : State :=
  { s with rdu.rxq := s.rdu.rxq ++ [e] }

/-- `pop(WIRE)` (R33). -/
def State.popWire (s : State) : State :=
  { s with wire := s.wire.tail }

/-- What every receiver step does: `pop(RXQ); RX_OPEN <- 1` (R185; log entry 19). -/
def State.takeEvent (s : State) : State :=
  { s with rdu.rxq := s.rdu.rxq.tail, rdu.rxOpen := true }

/-- One more byte consumed by the synchronizer: `SYNC_OFFSET <- (SYNC_OFFSET + 1) mod 2^32` (R40). -/
def State.countSyncByte (s : State) : State :=
  { s with rdu.syncOffset := s.rdu.syncOffset + 1 }

/-! ## Errors: the block's exceptions -/

/-- The error conditions (R280). -/
inductive ErrorCond
  | busErr
  | cfgErr
  | syncErr
  | rdErr
deriving DecidableEq, Repr, Inhabited

/-- The code of an error condition; 0 means no error (R280). -/
def errorCode : Option ErrorCond → Nat
  | none => 0
  | some .busErr => 1
  | some .cfgErr => 2
  | some .syncErr => 3
  | some .rdErr => 4

/-- `raise` (spec/00_scope.md section 5): the record each error condition makes (R280). The block has no
trap: nothing is saved, no mode changes and control goes nowhere (R290). A bus error leaves no record but
the response (R281). -/
def State.raise (s : State) : ErrorCond → State
  | .busErr => s
  | .cfgErr => { s with ctu.cfgErr := true }
  | .syncErr => { s with rdu.syncErr := true, rdu.syncErrCnt := s.rdu.syncErrCnt + 1 }
  | .rdErr => { s with rdu.rdErr := true, rdu.rdErrCnt := s.rdu.rdErrCnt + 1 }

/-- The write-1-to-clear acknowledgement of completions (R237, R291). -/
def State.ackIntr (s : State) (d : Reg) : State :=
  { s with ctu.intr := ⟨s.ctu.intr.a && !d.getLsbD 0, s.ctu.intr.b && !d.getLsbD 1⟩ }

/-- The write-1-to-clear acknowledgement of receiver errors (R246, R291). -/
def State.ackErrors (s : State) (d : Reg) : State :=
  { s with rdu.syncErr := s.rdu.syncErr && !d.getLsbD 5, rdu.rdErr := s.rdu.rdErr && !d.getLsbD 6 }

/-! ## Bus responses -/

/-- The response of an access, at the bus master of the unit accessed (log entry 9). -/
def State.respond (s : State) (unit : BusUnit) (r : BusResp) : State :=
  match unit with
  | .ctu => { s with ctuBus := r }
  | .rdu => { s with rduBus := r }

/-- A read of a register of the CTU: response `OK(r)`, no other state changes (R69). -/
def readCtu (s : State) (r : Reg) : Outcome :=
  .next (s.respond .ctu (.okRead r))

/-- A read of a register of the RDU: response `OK(r)`, no other state changes (R69). -/
def readRdu (s : State) (r : Reg) : Outcome :=
  .next (s.respond .rdu (.okRead r))

/-- The end of a write to the CTU: response `OK`. -/
def wroteCtu (s : State) : Outcome :=
  .next (s.respond .ctu .okWrite)

/-- The end of a write to the RDU: response `OK`. -/
def wroteRdu (s : State) : Outcome :=
  .next (s.respond .rdu .okWrite)

/-- A bus error: response `BUSERR`, no state changes (R255, R281). -/
def busError (s : State) (unit : BusUnit) : Outcome :=
  .next ((s.raise .busErr).respond unit .busErr)

end Sys2Proof.Machine
end

