-- ==== Sys2Proof/Machine/Operands.lean ====
section
/-!
DEFINITION. The data encodings: byte halves, the encode function and the packet (R91, R92), the decoder's
pair and transform (R96, R202), the PCM bytes (R97) and the UART character (R98).
-/

namespace Sys2Proof.Machine

/-- `lo8(w) = w[7:0]` (spec/00_scope.md section 5). -/
def lo8 (w : Half) : Byte :=
  w.setWidth 8

/-- `hi8(w) = w[15:8]` (spec/00_scope.md section 5). -/
def hi8 (w : Half) : Byte :=
  w.extractLsb' 8 8

/-- The pair `(b0, b1)` read as the little-endian u16 `(b1 ++ b0)` (R65, R96). -/
def pairWord (b0 b1 : Byte) : Half :=
  b1 ++ b0

/-- `TERM` (R6). -/
def termWord : Half :=
  0xFFFF

/-- The encode function: `SENTINEL` for the terminator pattern, any other word unchanged (R91). -/
def encWord (p : Params) (w : Half) : Half :=
  if w = termWord then p.sentinel else w

/-- The sample word of a converted value: `zext_16(v)` (R90, R121). -/
def sampleWord (v : BitVec 12) : Half :=
  v.setWidth 16

/-- The two bytes of an encoded sample (R65, R92). -/
def wireBytes (p : Params) (w : Half) : List Byte :=
  [lo8 (encWord p w), hi8 (encWord p w)]

/-- The packet of the words read for a fill (R92). -/
def packet (p : Params) (ws : List Half) : List Byte :=
  ws.flatMap (wireBytes p) ++ [0xFF, 0xFF]

/-- `OFFSET` (R8). -/
def biasOffset : Int :=
  2048

/-- `SHIFT` (R8). -/
def scaleShift : Nat :=
  4

/-- The decoder's transform `f(u) = to_s16((u - OFFSET) << SHIFT)` (R202): exact on the integers, then
narrowed to the 16-bit pattern. -/
def toPcm (u : Half) : Half :=
  BitVec.ofInt 16 (((u.toNat : Int) - biasOffset) * 2 ^ scaleShift)

/-- `g(s) = (s >>a 4) + 2048`, which recovers the 12-bit value (R211): `>>a` is floor division (spec/00_scope.md
section 5). -/
def fromPcm (x : Half) : Int :=
  Int.fdiv x.toInt (2 ^ scaleShift) + biasOffset

/-- An Audio Frame as delivered: `lo8(L), hi8(L), lo8(R), hi8(R)` (R97). -/
def frameBytes (l r : Half) : List Byte :=
  [lo8 l, hi8 l, lo8 r, hi8 r]

/-- The level of the line when idle: high (R98). -/
def lineIdle : Bool :=
  true

/-- One 8N1 character on the line, first bit first: start bit low, data bits least significant first, stop
bit high (R98, R166). No step reads it (log entry 16). -/
def lineBits (d : Byte) : List Bool :=
  false :: ((List.range 8).map d.getLsbD ++ [true])

/-- The line over a sequence of slots, bit time by bit time: a slot with a byte is its character, a slot with
none is a bit time in which the line is idle (R98, R166). No step reads it (log entry 16). -/
def lineLevels (slots : List (Option Byte)) : List Bool :=
  slots.flatMap fun
    | some d => lineBits d
    | none => [lineIdle]

end Sys2Proof.Machine
end

