-- ==== Sys2Proof/Machine/Capture.lean ====
section
/-!
DEFINITION. The capture agent: one conversion, its DMA write and the completion logic
(spec/40_sample_source.md, spec/41_dma_engine.md).
-/

namespace Sys2Proof.Machine

/-- The part every capture step has: the sample of channel `RR_CH` goes to `BUF[ACT][IDX]`, and the
converter moves to the other channel (R121, R122). -/
def State.captureSample? (s : State) (v : BitVec 12) : Option State :=
  (s.bufWrite? s.ctu.act s.ctu.idx (sampleWord v)).map
    fun t => { t with ctu.rrCh := otherChannel s.ctu.rrCh }

/-- The completion logic of buffer `x`: flag, counter and interrupt bit (R132 to R134). -/
def State.complete (s : State) (x : Buf) : State :=
  { s with
    ctu.ready := s.ctu.ready.set x true
    ctu.cnt := s.ctu.cnt.set x (s.ctu.cnt.get x + 1)
    ctu.intr := s.ctu.intr.set x true }

/-- CONV (R130). -/
def execConv (v : BitVec 12) (s : State) : Outcome :=
  onlyWhen (s.ctu.run = true ∧ s.capLast = false)
    (match s.captureSample? v with
      | some t => .next { t with ctu.idx := s.ctu.idx + 1 }
      | none => .fault .noSuchCell)

/-- CONV_COMPLETE (R133): the completion and the switch to the other buffer are in the step of the last
write (R72, R131). -/
def execConvComplete (v : BitVec 12) (s : State) : Outcome :=
  onlyWhen (s.ctu.run = true ∧ s.capLast = true)
    (match s.captureSample? v with
      | some t => .next { t.complete s.ctu.act with ctu.act := otherBuf s.ctu.act, ctu.idx := 0 }
      | none => .fault .noSuchCell)

end Sys2Proof.Machine
end

