-- ==== Sys2Proof/Machine/Flags.lean ====
section
/-!
DEFINITION. The values registers read as (R101, R102, R230 to R253) and the interrupt line (R287).
-/

namespace Sys2Proof.Machine

/-- The condition `b` as bit `k` of a register. -/
def flagBit (b : Bool) (k : Nat) : Reg :=
  (BitVec.ofBool b).setWidth 32 <<< k

/-- A buffer as a bit: `A = 0`, `B = 1` (R231). -/
def bufBit : Buf → Bool
  | .a => false
  | .b => true

/-- A channel as a bit (R26). -/
def channelBit : Channel → Bool
  | .ch0 => false
  | .ch1 => true

/-- `PHASE` as a bit: `LEFT = 0`, `RIGHT = 1` (R36). -/
def phaseBit : Phase → Bool
  | .left => false
  | .right => true

/-- `TX_ST` as a field (R106). -/
def txStCode : TxSt → BitVec 3
  | .idle => 0
  | .dataLo => 1
  | .dataHi => 2
  | .term0 => 3
  | .term1 => 4

/-- `SST` as a field: `HUNT = 0`, `SAW_FF = 1`, `SYNCED = 2` (R35). -/
def sstCode : SyncSt → BitVec 2
  | .hunt => 0
  | .sawFf => 1
  | .synced => 2

/-- `CTRL` (R230). -/
def regCtrl (s : State) : Reg :=
  flagBit s.ctu.run 0

/-- `STATUS` (R231). -/
def regStatus (s : State) : Reg :=
  flagBit s.ctu.ready.a 0 ||| flagBit s.ctu.ready.b 1 ||| flagBit (bufBit s.ctu.act) 2
    ||| flagBit (channelBit s.ctu.rrCh) 3 ||| flagBit (s.ctu.txSt != .idle) 4
    ||| flagBit (bufBit s.ctu.txBuf) 5 ||| flagBit s.ctu.run 6 ||| flagBit s.ctu.cfgErr 7

/-- `CLKDIV` (R233). -/
def regClkdiv (s : State) : Reg :=
  s.ctu.clkdiv.setWidth 32

/-- `INTR` (R239). -/
def regIntr (s : State) : Reg :=
  flagBit s.ctu.intr.a 0 ||| flagBit s.ctu.intr.b 1

/-- `INTE` (R241). -/
def regInte (s : State) : Reg :=
  flagBit s.ctu.inte.a 0 ||| flagBit s.ctu.inte.b 1

/-- `INTS` (R242). -/
def regInts (s : State) : Reg :=
  flagBit (s.ctu.intr.a && s.ctu.inte.a) 0 ||| flagBit (s.ctu.intr.b && s.ctu.inte.b) 1

/-- `CONFIG` (R243). -/
def regConfig (s : State) : Reg :=
  s.params.nLog2.setWidth 32 ||| s.params.sentinel.setWidth 32 <<< 16

/-- `RSTATUS` (R244). -/
def regRstatus (s : State) : Reg :=
  (sstCode s.rdu.sst).setWidth 32 ||| flagBit (phaseBit s.rdu.phase) 2 ||| flagBit s.rdu.haveLo 3
    ||| flagBit s.rdu.outValid 4 ||| flagBit s.rdu.syncErr 5 ||| flagBit s.rdu.rdErr 6

/-- `OUT_FRAME` (R252). -/
def regOutFrame (s : State) : Reg :=
  s.rdu.outL.setWidth 32 ||| s.rdu.outR.setWidth 32 <<< 16

/-- `LEFT_HOLD` (R253). -/
def regLeftHold (s : State) : Reg :=
  s.rdu.leftVal.setWidth 32

/-- The interrupt line (R287), combinational on the state. No rule of the block reads it. -/
def irq (s : State) : Bool :=
  (s.ctu.intr.a && s.ctu.inte.a) || (s.ctu.intr.b && s.ctu.inte.b)

end Sys2Proof.Machine
end

