-- ==== Sys2Proof/Machine/CtuRegs.lean ====
section
/-!
DEFINITION. Register accesses of the CTU (spec/45_register_access.md section 1). The response of every
access goes to `State.ctuBus`.
-/

namespace Sys2Proof.Machine

/-- RD CTU.CTRL (R230). -/
def execRdCtuCtrl (s : State) : Outcome :=
  readCtu s (regCtrl s)

/-- RD CTU.STATUS (R231). -/
def execRdCtuStatus (s : State) : Outcome :=
  readCtu s (regStatus s)

/-- RD CTU.CLKDIV (R233). -/
def execRdCtuClkdiv (s : State) : Outcome :=
  readCtu s (regClkdiv s)

/-- RD CTU.CNT_A (R235). -/
def execRdCtuCntA (s : State) : Outcome :=
  readCtu s (s.ctu.cnt.a)

/-- RD CTU.CNT_B (R236). -/
def execRdCtuCntB (s : State) : Outcome :=
  readCtu s (s.ctu.cnt.b)

/-- RD CTU.INTR (R239). -/
def execRdCtuIntr (s : State) : Outcome :=
  readCtu s (regIntr s)

/-- RD CTU.INTE (R241). -/
def execRdCtuInte (s : State) : Outcome :=
  readCtu s (regInte s)

/-- RD CTU.INTS (R242). -/
def execRdCtuInts (s : State) : Outcome :=
  readCtu s (regInts s)

/-- RD CTU.CONFIG (R243). -/
def execRdCtuConfig (s : State) : Outcome :=
  readCtu s (regConfig s)

/-- WR CTU.CTRL: the start request (R232). A start with `CLKDIV = 0` is the fatal misconfiguration (R282);
nothing stops capture or clears the error. -/
def execWrCtuCtrl (d : Reg) (s : State) : Outcome :=
  if d.getLsbD 0 = true ∧ s.ctu.run = false ∧ s.ctu.cfgErr = false then
    if s.ctu.clkdiv = 0 then wroteCtu (s.raise .cfgErr)
    else wroteCtu { s with ctu.run := true }
  else wroteCtu s

/-- WR CTU.CLKDIV (R234): ignored while running or misconfigured. -/
def execWrCtuClkdiv (d : Reg) (s : State) : Outcome :=
  if s.ctu.run = false ∧ s.ctu.cfgErr = false then
    wroteCtu { s with ctu.clkdiv := d.setWidth 16 }
  else wroteCtu s

/-- WR CTU.INTR: acknowledge completions (R237). -/
def execWrCtuIntr (d : Reg) (s : State) : Outcome :=
  wroteCtu (s.ackIntr d)

/-- WR CTU.INTE (R238). -/
def execWrCtuInte (d : Reg) (s : State) : Outcome :=
  wroteCtu { s with ctu.inte := ⟨d.getLsbD 0, d.getLsbD 1⟩ }

/-- WR CTU.STATUS: read-only, no state change (R240). -/
def execWrCtuStatus (_d : Reg) (s : State) : Outcome :=
  wroteCtu s

/-- WR CTU.CNT_A: read-only, no state change (R240). -/
def execWrCtuCntA (_d : Reg) (s : State) : Outcome :=
  wroteCtu s

/-- WR CTU.CNT_B: read-only, no state change (R240). -/
def execWrCtuCntB (_d : Reg) (s : State) : Outcome :=
  wroteCtu s

/-- WR CTU.INTS: read-only, no state change (R240). -/
def execWrCtuInts (_d : Reg) (s : State) : Outcome :=
  wroteCtu s

/-- WR CTU.CONFIG: read-only, no state change (R240). -/
def execWrCtuConfig (_d : Reg) (s : State) : Outcome :=
  wroteCtu s

end Sys2Proof.Machine
end

