-- ==== Sys2Proof/Machine/FrameDecoder.lean ====
section
/-!
DEFINITION. The receiver agent while `SST` is `SYNCED`, the frame decoder, and the sink agent
(spec/44_decoder.md).
-/

namespace Sys2Proof.Machine

/-- A decoder step on the second byte `b` of a pair: `SYNCED`, with a first byte latched (R201, R203, R204). -/
def onPair (s : State) (k : Byte → Outcome) : Outcome :=
  onByte s fun b => onlyWhen (s.rdu.sst = .synced ∧ s.rdu.haveLo = true) (k b)

/-- The pair `(b0, b1)` is a boundary (R96). -/
def isBoundary (b0 b1 : Byte) : Bool :=
  b0 == 0xFF && b1 == 0xFF

/-- DEC_FIRST (R200). -/
def execDecFirst (s : State) : Outcome :=
  onByte s fun b =>
    onlyWhen (s.rdu.sst = .synced ∧ s.rdu.haveLo = false)
      (.next { s.takeEvent with rdu.loByte := b, rdu.haveLo := true })

/-- DEC_ERR_EMPTY (R206). -/
def execDecErrEmpty (s : State) : Outcome :=
  onErr s
    (onlyWhen (s.rdu.sst = .synced ∧ s.rdu.haveLo = false) (.next (s.takeEvent.raise .rdErr)))

/-- DEC_BOUNDARY (R201): `PHASE` and `LEFT_VAL` survive. -/
def execDecBoundary (s : State) : Outcome :=
  onPair s fun b =>
    onlyWhen (isBoundary s.rdu.loByte b = true)
      (.next { s.takeEvent with rdu.haveLo := false, rdu.boundaryCnt := s.rdu.boundaryCnt + 1 })

/-- DEC_LEFT (R203). -/
def execDecLeft (s : State) : Outcome :=
  onPair s fun b =>
    onlyWhen (s.rdu.phase = .left ∧ isBoundary s.rdu.loByte b = false)
      (.next { s.takeEvent with
        rdu.leftVal := toPcm (pairWord s.rdu.loByte b), rdu.phase := .right, rdu.haveLo := false })

/-- DEC_RIGHT (R204): the frame goes to the output register. -/
def execDecRight (s : State) : Outcome :=
  onPair s fun b =>
    onlyWhen (s.rdu.phase = .right ∧ isBoundary s.rdu.loByte b = false)
      (.next { s.takeEvent with
        rdu.outL := s.rdu.leftVal, rdu.outR := toPcm (pairWord s.rdu.loByte b), rdu.outValid := true,
        rdu.phase := .left, rdu.haveLo := false, rdu.frameCnt := s.rdu.frameCnt + 1 })

/-- DEC_ERR_SHORT (R207): the latched byte is discarded. -/
def execDecErrShort (s : State) : Outcome :=
  onErr s
    (onlyWhen (s.rdu.sst = .synced ∧ s.rdu.haveLo = true)
      (.next { s.takeEvent.raise .rdErr with rdu.haveLo := false }))

/-- SINK_ACCEPT (R214). -/
def execSinkAccept (s : State) : Outcome :=
  onlyWhen (s.rdu.outValid = true)
    (.next { s with pcmOut := s.pcmOut ++ frameBytes s.rdu.outL s.rdu.outR, rdu.outValid := false })

end Sys2Proof.Machine
end

