-- ==== Sys2Proof/Machine/Link.lean ====
section
/-!
DEFINITION. The link agent (spec/20_memory.md section 6, R80 to R84).
-/

namespace Sys2Proof.Machine

/-- LINK_DELIVER (R80). -/
def execLinkDeliver (s : State) : Outcome :=
  match s.wire with
  | x :: _ => .next (s.popWire.pushRxq (.byte x))
  | [] => .refused .notEnabled

/-- LINK_TIMEOUT: an idle line (R81). -/
def execLinkTimeout (s : State) : Outcome :=
  onlyWhen (s.wire = []) (.next (s.pushRxq .err))

/-- LINK_TIMEOUT_LOSSY (R81). The row does not test `WNE` (R111), so neither does the step (log entry 11). -/
def execLinkTimeoutLossy (s : State) : Outcome :=
  onlyWhen (s.params.linkLossy = true) (.next (s.pushRxq .err))

/-- LINK_SKIP: a byte lost before the RDU's first input (R82). -/
def execLinkSkip (s : State) : Outcome :=
  onlyWhen (s.rdu.rxOpen = false ∧ s.rdu.rxq = [] ∧ s.wire ≠ []) (.next s.popWire)

/-- LINK_DROP (R83). -/
def execLinkDrop (s : State) : Outcome :=
  onlyWhen (s.params.linkLossy = true ∧ s.wire ≠ []) (.next s.popWire)

/-- LINK_CORRUPT: `head(WIRE)` becomes the draw `c` (R83). -/
def execLinkCorrupt (c : Byte) (s : State) : Outcome :=
  onlyWhen (s.params.linkLossy = true ∧ s.wire ≠ []) (.next { s with wire := c :: s.wire.tail })

/-- LINK_INSERT: the draw `c` reaches the RDU (R83). -/
def execLinkInsert (c : Byte) (s : State) : Outcome :=
  onlyWhen (s.params.linkLossy = true) (.next (s.pushRxq (.byte c)))

end Sys2Proof.Machine
end

