-- ==== Sys2Proof/Machine/RduRegs.lean ====
section
/-!
DEFINITION. Register accesses of the RDU, reserved offsets and bus errors (spec/45_register_access.md
sections 2 and 3). The response of every access goes to the bus master of the unit accessed.
-/

namespace Sys2Proof.Machine

/-- RD RDU.RSTATUS (R244). -/
def execRdRduRstatus (s : State) : Outcome :=
  readRdu s (regRstatus s)

/-- RD RDU.SYNC_OFFSET (R245). -/
def execRdRduSyncOffset (s : State) : Outcome :=
  readRdu s (s.rdu.syncOffset)

/-- RD RDU.SYNC_ERR_CNT (R247). -/
def execRdRduSyncErrCnt (s : State) : Outcome :=
  readRdu s (s.rdu.syncErrCnt)

/-- RD RDU.RD_ERR_CNT (R248). -/
def execRdRduRdErrCnt (s : State) : Outcome :=
  readRdu s (s.rdu.rdErrCnt)

/-- RD RDU.BOUNDARY_CNT (R249). -/
def execRdRduBoundaryCnt (s : State) : Outcome :=
  readRdu s (s.rdu.boundaryCnt)

/-- RD RDU.FRAME_CNT (R251). -/
def execRdRduFrameCnt (s : State) : Outcome :=
  readRdu s (s.rdu.frameCnt)

/-- RD RDU.OUT_FRAME (R252). -/
def execRdRduOutFrame (s : State) : Outcome :=
  readRdu s (regOutFrame s)

/-- RD RDU.LEFT_HOLD (R253). -/
def execRdRduLeftHold (s : State) : Outcome :=
  readRdu s (regLeftHold s)

/-- WR RDU.RSTATUS: clear the sticky error bits (R246). -/
def execWrRduRstatus (d : Reg) (s : State) : Outcome :=
  wroteRdu (s.ackErrors d)

/-- WR RDU.SYNC_OFFSET: read-only, no state change (R254). -/
def execWrRduSyncOffset (_d : Reg) (s : State) : Outcome :=
  wroteRdu s

/-- WR RDU.SYNC_ERR_CNT: read-only, no state change (R254). -/
def execWrRduSyncErrCnt (_d : Reg) (s : State) : Outcome :=
  wroteRdu s

/-- WR RDU.RD_ERR_CNT: read-only, no state change (R254). -/
def execWrRduRdErrCnt (_d : Reg) (s : State) : Outcome :=
  wroteRdu s

/-- WR RDU.BOUNDARY_CNT: read-only, no state change (R254). -/
def execWrRduBoundaryCnt (_d : Reg) (s : State) : Outcome :=
  wroteRdu s

/-- WR RDU.FRAME_CNT: read-only, no state change (R254). -/
def execWrRduFrameCnt (_d : Reg) (s : State) : Outcome :=
  wroteRdu s

/-- WR RDU.OUT_FRAME: read-only, no state change (R254). -/
def execWrRduOutFrame (_d : Reg) (s : State) : Outcome :=
  wroteRdu s

/-- WR RDU.LEFT_HOLD: read-only, no state change (R254). -/
def execWrRduLeftHold (_d : Reg) (s : State) : Outcome :=
  wroteRdu s

/-- RD of a reserved offset: reads as zero (R250). -/
def execRdReserved (unit : BusUnit) (_off : Byte) (s : State) : Outcome :=
  .next (s.respond unit (.okRead 0))

/-- WR to a reserved offset: ignored (R250). -/
def execWrReserved (unit : BusUnit) (_off : Byte) (_d : Reg) (s : State) : Outcome :=
  .next (s.respond unit .okWrite)

/-- BUSERR_SIZE_NARROW (R255). -/
def execBuserrSizeNarrow (_half : Bool) (unit : BusUnit) (_we : Bool) (_off : Byte) (s : State) : Outcome :=
  busError s unit

/-- BUSERR_SIZE_NONE (R255). -/
def execBuserrSizeNone (unit : BusUnit) (_we : Bool) (_off : Byte) (s : State) : Outcome :=
  busError s unit

/-- BUSERR_ALIGN_ODD (R255). -/
def execBuserrAlignOdd (unit : BusUnit) (_we : Bool) (_off : Byte) (s : State) : Outcome :=
  busError s unit

/-- BUSERR_ALIGN_HALF (R255). -/
def execBuserrAlignHalf (unit : BusUnit) (_we : Bool) (_off : Byte) (s : State) : Outcome :=
  busError s unit

end Sys2Proof.Machine
end

