-- ==== Sys2Proof/Machine/ResetSource.lean ====
section
/-!
DEFINITION. The reset source's two steps (spec/70_reset_and_hazards.md, R300, R301), each taken in any
state.
-/

namespace Sys2Proof.Machine

/-- RESET CTU (R300): every CTU element takes its reset value, and the cells of both buffers become free
values of a new epoch (log entry 4). The link, the RDU and what was delivered keep theirs. -/
def execResetCtu (s : State) : Outcome :=
  .next { s with ctu := Ctu.atReset (s.ctu.bufEpoch + 1) }

/-- RESET RDU (R301): every RDU element takes its reset value. -/
def execResetRdu (s : State) : Outcome :=
  .next { s with rdu := Rdu.atReset }

end Sys2Proof.Machine
end

