-- ==== Sys2Proof/Machine/Synchronizer.lean ====
section
/-!
DEFINITION. The receiver agent while `SST` is `HUNT` or `SAW_FF`: the synchronizer
(spec/43_synchronizer.md).
-/

namespace Sys2Proof.Machine

/-- A synchronizer step on a byte: `SST` is `st`, the byte passes `p`, it is consumed and counted, and `SST`
becomes `st'` (R180 to R183). -/
def syncByteStep (st : SyncSt) (p : Byte → Bool) (st' : SyncSt) (s : State) : Outcome :=
  onByte s fun b =>
    onlyWhen (s.rdu.sst = st ∧ p b = true) (.next { s.takeEvent.countSyncByte with rdu.sst := st' })

/-- The terminator-pattern byte, all bits set (R95). -/
def isTermByte (b : Byte) : Bool :=
  b == 0xFF

/-- SYNC_HUNT_FF (R181). -/
def execSyncHuntFf (s : State) : Outcome :=
  syncByteStep .hunt isTermByte .sawFf s

/-- SYNC_HUNT_OTHER (R180). -/
def execSyncHuntOther (s : State) : Outcome :=
  syncByteStep .hunt (fun b => !isTermByte b) .hunt s

/-- SYNC_LOCK (R182): both bytes are consumed as the boundary. -/
def execSyncLock (s : State) : Outcome :=
  onByte s fun b =>
    onlyWhen (s.rdu.sst = .sawFf ∧ isTermByte b = true)
      (.next { s.takeEvent.countSyncByte with
        rdu.sst := .synced, rdu.phase := .left, rdu.haveLo := false })

/-- SYNC_RESUME (R183). -/
def execSyncResume (s : State) : Outcome :=
  syncByteStep .sawFf (fun b => !isTermByte b) .hunt s

/-- SYNC_ERR_EVENT (R184): no byte position is taken, and the hunt goes on. -/
def execSyncErrEvent (s : State) : Outcome :=
  onErr s
    (onlyWhen (s.rdu.sst ≠ .synced) (.next { s.takeEvent.raise .syncErr with rdu.sst := .hunt }))

end Sys2Proof.Machine
end

