-- ==== Sys2Proof/Machine/Transmitter.lean ====
section
/-!
DEFINITION. The transmitter agent, the encode rows and the UART agent (spec/42_transmitter.md, R91).
-/

namespace Sys2Proof.Machine

/-- What both selections do: the flag is not cleared and no byte is sent (R150). -/
def State.selectBuf (s : State) (x : Buf) : State :=
  { s with ctu.txBuf := x, ctu.txI := 0, ctu.txSt := .dataLo }

/-- A transmitter step that sends one byte: its state is `st` and `UQ` has room (R152 to R156, R158). -/
def whenSending (st : TxSt) (s : State) (o : Outcome) : Outcome :=
  onlyWhen (s.ctu.txSt = st ∧ s.uqFull = false) o

/-- TX_SELECT_A (R150). -/
def execTxSelectA (s : State) : Outcome :=
  onlyWhen (s.ctu.txSt = .idle ∧ s.ctu.ready.a = true) (.next (s.selectBuf .a))

/-- TX_SELECT_B (R150). -/
def execTxSelectB (s : State) : Outcome :=
  onlyWhen (s.ctu.txSt = .idle ∧ s.ctu.ready.a = false ∧ s.ctu.ready.b = true) (.next (s.selectBuf .b))

/-- TX_POLL_NONE (R151). -/
def execTxPollNone (s : State) : Outcome :=
  onlyWhen (s.ctu.txSt = .idle ∧ s.ctu.ready.a = false ∧ s.ctu.ready.b = false) (.next s)

/-- TX_LO (R152): the word is read, encoded and latched at this step, and its low byte sent. -/
def execTxLo (s : State) : Outcome :=
  whenSending .dataLo s
    (match s.bufRead? s.ctu.txBuf s.ctu.txI with
      | some w =>
        .next { s.pushUq (lo8 (encWord s.params w)) with
          ctu.txWord := encWord s.params w, ctu.txSt := .dataHi }
      | none => .fault .noSuchCell)

/-- TX_HI (R153). -/
def execTxHi (s : State) : Outcome :=
  whenSending .dataHi s
    (onlyWhen (s.txLast = false)
      (.next { s.pushUq (hi8 s.ctu.txWord) with ctu.txI := s.ctu.txI + 1, ctu.txSt := .dataLo }))

/-- TX_HI_LAST (R154). -/
def execTxHiLast (s : State) : Outcome :=
  whenSending .dataHi s
    (onlyWhen (s.txLast = true) (.next { s.pushUq (hi8 s.ctu.txWord) with ctu.txSt := .term0 }))

/-- TX_TERM0 (R155). -/
def execTxTerm0 (s : State) : Outcome :=
  whenSending .term0 s (.next { s.pushUq 0xFF with ctu.txSt := .term1 })

/-- TX_TERM1 (R156): the one step that clears a ready flag (R157). -/
def execTxTerm1 (s : State) : Outcome :=
  whenSending .term1 s
    (.next { s.pushUq 0xFF with
      ctu.ready := s.ctu.ready.set s.ctu.txBuf false, ctu.txSt := .idle })

/-- The value of the encode function on a word, kept where it can be observed (log entry 10): the `enc` rows
are no agent's step and change nothing of the block (R111). -/
def State.evalEnc (s : State) (w : Half) : State :=
  { s with encOut := encWord s.params w }

/-- ENC_SUBST: `enc(0xFFFF)` (R91). -/
def execEncSubst (s : State) : Outcome :=
  .next (s.evalEnc termWord)

/-- ENC_PASS: `enc(w)` (R91). -/
def execEncPass (w : Half) (s : State) : Outcome :=
  .next (s.evalEnc w)

/-- UART_SHIFT (R165). -/
def execUartShift (s : State) : Outcome :=
  match s.ctu.uq with
  | x :: rest => .next { s with wire := s.wire ++ [x], ctu.uq := rest }
  | [] => .refused .notEnabled

end Sys2Proof.Machine
end

