-- ==== Sys2Proof/Machine/Dispatch.lean ====
section
/-!
DEFINITION. One arm per instruction: its meaning.
-/

namespace Sys2Proof.Machine

def exec (i : Instr) (s : State) : Host.Outcome State Fault Refusal :=
  match i with
  | .conv v => Sys2Proof.Machine.execConv v s
  | .convComplete v => Sys2Proof.Machine.execConvComplete v s
  | .txSelectA => Sys2Proof.Machine.execTxSelectA s
  | .txSelectB => Sys2Proof.Machine.execTxSelectB s
  | .txPollNone => Sys2Proof.Machine.execTxPollNone s
  | .txLo => Sys2Proof.Machine.execTxLo s
  | .txHi => Sys2Proof.Machine.execTxHi s
  | .txHiLast => Sys2Proof.Machine.execTxHiLast s
  | .txTerm0 => Sys2Proof.Machine.execTxTerm0 s
  | .txTerm1 => Sys2Proof.Machine.execTxTerm1 s
  | .encSubst => Sys2Proof.Machine.execEncSubst s
  | .encPass w => Sys2Proof.Machine.execEncPass w s
  | .uartShift => Sys2Proof.Machine.execUartShift s
  | .linkDeliver => Sys2Proof.Machine.execLinkDeliver s
  | .linkTimeout => Sys2Proof.Machine.execLinkTimeout s
  | .linkTimeoutLossy => Sys2Proof.Machine.execLinkTimeoutLossy s
  | .linkSkip => Sys2Proof.Machine.execLinkSkip s
  | .linkDrop => Sys2Proof.Machine.execLinkDrop s
  | .linkCorrupt c => Sys2Proof.Machine.execLinkCorrupt c s
  | .linkInsert c => Sys2Proof.Machine.execLinkInsert c s
  | .syncHuntFf => Sys2Proof.Machine.execSyncHuntFf s
  | .syncHuntOther => Sys2Proof.Machine.execSyncHuntOther s
  | .syncLock => Sys2Proof.Machine.execSyncLock s
  | .syncResume => Sys2Proof.Machine.execSyncResume s
  | .syncErrEvent => Sys2Proof.Machine.execSyncErrEvent s
  | .decFirst => Sys2Proof.Machine.execDecFirst s
  | .decErrEmpty => Sys2Proof.Machine.execDecErrEmpty s
  | .decBoundary => Sys2Proof.Machine.execDecBoundary s
  | .decLeft => Sys2Proof.Machine.execDecLeft s
  | .decRight => Sys2Proof.Machine.execDecRight s
  | .decErrShort => Sys2Proof.Machine.execDecErrShort s
  | .sinkAccept => Sys2Proof.Machine.execSinkAccept s
  | .buserrSizeNarrow half unit we off => Sys2Proof.Machine.execBuserrSizeNarrow half unit we off s
  | .buserrSizeNone unit we off => Sys2Proof.Machine.execBuserrSizeNone unit we off s
  | .buserrAlignOdd unit we off => Sys2Proof.Machine.execBuserrAlignOdd unit we off s
  | .buserrAlignHalf unit we off => Sys2Proof.Machine.execBuserrAlignHalf unit we off s
  | .rdCtuCtrl => Sys2Proof.Machine.execRdCtuCtrl s
  | .wrCtuCtrl d => Sys2Proof.Machine.execWrCtuCtrl d s
  | .rdCtuStatus => Sys2Proof.Machine.execRdCtuStatus s
  | .wrCtuStatus d => Sys2Proof.Machine.execWrCtuStatus d s
  | .rdCtuClkdiv => Sys2Proof.Machine.execRdCtuClkdiv s
  | .wrCtuClkdiv d => Sys2Proof.Machine.execWrCtuClkdiv d s
  | .rdCtuCntA => Sys2Proof.Machine.execRdCtuCntA s
  | .wrCtuCntA d => Sys2Proof.Machine.execWrCtuCntA d s
  | .rdCtuCntB => Sys2Proof.Machine.execRdCtuCntB s
  | .wrCtuCntB d => Sys2Proof.Machine.execWrCtuCntB d s
  | .rdCtuIntr => Sys2Proof.Machine.execRdCtuIntr s
  | .wrCtuIntr d => Sys2Proof.Machine.execWrCtuIntr d s
  | .rdCtuInte => Sys2Proof.Machine.execRdCtuInte s
  | .wrCtuInte d => Sys2Proof.Machine.execWrCtuInte d s
  | .rdCtuInts => Sys2Proof.Machine.execRdCtuInts s
  | .wrCtuInts d => Sys2Proof.Machine.execWrCtuInts d s
  | .rdCtuConfig => Sys2Proof.Machine.execRdCtuConfig s
  | .wrCtuConfig d => Sys2Proof.Machine.execWrCtuConfig d s
  | .rdRduRstatus => Sys2Proof.Machine.execRdRduRstatus s
  | .wrRduRstatus d => Sys2Proof.Machine.execWrRduRstatus d s
  | .rdRduSyncOffset => Sys2Proof.Machine.execRdRduSyncOffset s
  | .wrRduSyncOffset d => Sys2Proof.Machine.execWrRduSyncOffset d s
  | .rdRduSyncErrCnt => Sys2Proof.Machine.execRdRduSyncErrCnt s
  | .wrRduSyncErrCnt d => Sys2Proof.Machine.execWrRduSyncErrCnt d s
  | .rdRduRdErrCnt => Sys2Proof.Machine.execRdRduRdErrCnt s
  | .wrRduRdErrCnt d => Sys2Proof.Machine.execWrRduRdErrCnt d s
  | .rdRduBoundaryCnt => Sys2Proof.Machine.execRdRduBoundaryCnt s
  | .wrRduBoundaryCnt d => Sys2Proof.Machine.execWrRduBoundaryCnt d s
  | .rdRduFrameCnt => Sys2Proof.Machine.execRdRduFrameCnt s
  | .wrRduFrameCnt d => Sys2Proof.Machine.execWrRduFrameCnt d s
  | .rdRduOutFrame => Sys2Proof.Machine.execRdRduOutFrame s
  | .wrRduOutFrame d => Sys2Proof.Machine.execWrRduOutFrame d s
  | .rdRduLeftHold => Sys2Proof.Machine.execRdRduLeftHold s
  | .wrRduLeftHold d => Sys2Proof.Machine.execWrRduLeftHold d s
  | .rdReserved unit off => Sys2Proof.Machine.execRdReserved unit off s
  | .wrReserved unit off d => Sys2Proof.Machine.execWrReserved unit off d s
  | .resetCtu => Sys2Proof.Machine.execResetCtu s
  | .resetRdu => Sys2Proof.Machine.execResetRdu s

end Sys2Proof.Machine
end

