-- ==== Sys2Proof/Machine/Fetch.lean ====
section
/-!
DEFINITION. The dispatch words (R106): built from the state for a generic trace line, and, for the tests'
entry point, put into the state elements they are built from.
-/

namespace Sys2Proof.Machine

/-! ## Building a dispatch word -/

/-- A `cap` word: `LAST, RUN`. -/
def capWord (s : State) : DispatchBits :=
  (BitVec.ofBool s.capLast ++ BitVec.ofBool s.ctu.run).setWidth 24

/-- A `tx` word: `LAST, UQFULL, READY[B], READY[A], TX_ST`. -/
def txDispatch (s : State) : DispatchBits :=
  (BitVec.ofBool s.txLast ++ (BitVec.ofBool s.uqFull ++ (BitVec.ofBool s.ctu.ready.b ++
    (BitVec.ofBool s.ctu.ready.a ++ txStCode s.ctu.txSt)))).setWidth 24

/-- A `uart` word: `UQNE`. -/
def uartWord (s : State) : DispatchBits :=
  (BitVec.ofBool !s.ctu.uq.isEmpty).setWidth 24

/-- Field `CODE` of a `link` word. -/
def linkCodeBits : LinkCode → BitVec 3
  | .deliver => 0
  | .timeout => 1
  | .skip => 2
  | .drop => 3
  | .corrupt => 4
  | .insert => 5

/-- A `link` word: `0, LOSSY, RXQE, RX_OPEN, WNE, CODE`. -/
def linkWord (code : LinkCode) (s : State) : DispatchBits :=
  (BitVec.ofBool s.params.linkLossy ++ (BitVec.ofBool s.rdu.rxq.isEmpty ++
    (BitVec.ofBool s.rdu.rxOpen ++ (BitVec.ofBool (!s.wire.isEmpty) ++ linkCodeBits code)))).setWidth 24

/-- Bits `ERR` and `B` of an `rx` word, from the head of `RXQ`; 0 where it is empty. -/
def rxHeadBits : List RxEvent → BitVec 9
  | .byte b :: _ => (0 : BitVec 1) ++ b
  | .err :: _ => 0x100
  | [] => 0

/-- An `rx` word: `RXQNE, OUT_VALID, LO_BYTE, PHASE, HAVE_LO, SST, ERR, B`. -/
def rxWord (s : State) : DispatchBits :=
  (BitVec.ofBool (!s.rdu.rxq.isEmpty) ++ (BitVec.ofBool s.rdu.outValid ++ (s.rdu.loByte ++
    (BitVec.ofBool (phaseBit s.rdu.phase) ++ (BitVec.ofBool s.rdu.haveLo ++
      (sstCode s.rdu.sst ++ rxHeadBits s.rdu.rxq)))))).setWidth 24

/-- A `sink` word: `OUT_VALID`. -/
def sinkWord (s : State) : DispatchBits :=
  (BitVec.ofBool s.rdu.outValid).setWidth 24

/-- The dispatch word of a generic form, with its format and operand (R105, R106, R109). -/
def choiceRequest (c : Choice) (s : State) : Request :=
  match c with
  | .conv v => ⟨.cap, capWord s, v.setWidth 32⟩
  | .tx => ⟨.tx, txDispatch s, 0⟩
  | .uart => ⟨.uart, uartWord s, 0⟩
  | .link code c => ⟨.link, linkWord code s, c.setWidth 32⟩
  | .rx => ⟨.rx, rxWord s, 0⟩
  | .sink => ⟨.sink, sinkWord s, 0⟩

/-- What the decoder is given for a trace line: the word the line writes out, or the one the state builds
(R109). -/
def fetchLine (line : TraceLine) (s : State) : Request :=
  match line with
  | .row f w arg => ⟨f, w, arg⟩
  | .agent c => choiceRequest c s

/-! ## Placing a dispatch word (log entry 8) -/

/-- A queue that is to be non-empty exactly when `b` is true: as it is, if it already is so. -/
def placeNonEmpty {α : Type} (b : Bool) (x : α) (q : List α) : List α :=
  if q.isEmpty = !b then q else if b then [x] else []

/-- An index that is to be `last` exactly when `b` is true: as it is, if it already is so. -/
def placeLast (b : Bool) (last i : Nat) : Nat :=
  if decide (i = last) = b then i else if b then last else 0

/-- `TX_ST` of a field; none for 5 to 7. -/
def txStOfCode (c : BitVec 3) : Option TxSt :=
  [TxSt.idle, .dataLo, .dataHi, .term0, .term1].find? fun st => txStCode st == c

/-- `SST` of a field; none for 3. -/
def sstOfCode (c : BitVec 2) : Option SyncSt :=
  [SyncSt.hunt, .sawFf, .synced].find? fun st => sstCode st == c

/-- The elements a `cap` word is built from. -/
def placeCap (w : DispatchBits) (s : State) : State :=
  { s with
    ctu.run := w.getLsbD 0
    ctu.idx := placeLast (w.getLsbD 1) (bufLen s.params - 1) s.ctu.idx }

/-- The elements a `tx` word is built from. A queue that is to be full and is not holds zero bytes. -/
def placeTx (w : DispatchBits) (s : State) : State :=
  { s with
    ctu.txSt := (txStOfCode (w.setWidth 3)).getD s.ctu.txSt
    ctu.ready := ⟨w.getLsbD 3, w.getLsbD 4⟩
    ctu.uq := if s.uqFull = w.getLsbD 5 then s.ctu.uq else
      if w.getLsbD 5 then List.replicate s.params.uartDepth 0 else []
    ctu.txI := placeLast (w.getLsbD 6) (bufLen s.params - 1) s.ctu.txI }

/-- The elements a `uart` word is built from. -/
def placeUart (w : DispatchBits) (s : State) : State :=
  { s with ctu.uq := placeNonEmpty (w.getLsbD 0) 0 s.ctu.uq }

/-- The elements a `link` word is built from. -/
def placeLink (w : DispatchBits) (s : State) : State :=
  { s with
    wire := placeNonEmpty (w.getLsbD 3) 0 s.wire
    rdu.rxOpen := w.getLsbD 4
    rdu.rxq := placeNonEmpty (!w.getLsbD 5) .err s.rdu.rxq
    params.linkLossy := w.getLsbD 6 }

/-- The elements an `rx` word is built from. -/
def placeRx (w : DispatchBits) (s : State) : State :=
  { s with
    rdu.rxq :=
      if w.getLsbD 22 then (if w.getLsbD 8 then .err else .byte (w.setWidth 8)) :: s.rdu.rxq.tail else []
    rdu.sst := (sstOfCode (w.extractLsb' 9 2)).getD s.rdu.sst
    rdu.haveLo := w.getLsbD 11
    rdu.phase := if w.getLsbD 12 then .right else .left
    rdu.loByte := w.extractLsb' 13 8
    rdu.outValid := w.getLsbD 21 }

/-- The elements a `sink` word is built from. -/
def placeSink (w : DispatchBits) (s : State) : State :=
  { s with rdu.outValid := w.getLsbD 0 }

/-- The state with the elements a dispatch word is built from as the word has them. The words of `enc`, `bus`
and `rst` are built from no state (R106). -/
def placeWord (f : Format) (w : DispatchBits) (s : State) : State :=
  match f with
  | .cap => placeCap w s
  | .tx => placeTx w s
  | .uart => placeUart w s
  | .link => placeLink w s
  | .rx => placeRx w s
  | .sink => placeSink w s
  | .enc | .bus | .rst => s

end Sys2Proof.Machine
end

