-- ==== Sys2Proof/Machine/Run.lean ====
section
/-!
DEFINITION. Running one trace line (R109), a free choice of the scheduler (R3, R71), and the placing of a
table word for the next step.
-/

namespace Sys2Proof.Machine

/-- One trace line: its dispatch word is fetched and decoded, and the instruction run. A line whose word the
decoder refuses is refused (R105, R107, R109). -/
def State.runLine (s : State) (line : TraceLine) : Outcome :=
  match decodeRequest (fetchLine line s) with
  | .ok i => exec i s
  | .bad e => .refused (.badWord e)

/-- One step of the block with the next line of the trace. With no line left, the scheduler's next choice is
a free value (R3, R71; log entry 5); a choice that is no enabled step is passed over, and the state stays as
it is but for the count of choices. -/
def State.advance (s : State) : Outcome :=
  match s.trace with
  | line :: rest => State.runLine { s with trace := rest } line
  | [] =>
    match State.runLine { s with tick := s.tick + 1 } (Config.schedule s.tick) with
    | .next t => .next t
    | .fault f => .fault f
    | .refused _ => .next { s with tick := s.tick + 1 }

/-- The trace line of a table word that no format decodes: the decoder refuses it. -/
def unreadableLine (nbits w : Nat) : TraceLine :=
  .row ((formatsOfWidth nbits).headD .rx) (if w < 2 ^ 24 then BitVec.ofNat 24 w else 0xFFFFFF) 0

/-- The state whose next step runs the table's word: the word is the next line of the trace, and the state
elements it is built from are as it has them (log entry 8). A word no format has is placed so that the
decoder refuses it. -/
def State.placeTableWord (s : State) (nbits w : Nat) : State :=
  match tableWord nbits w with
  | some (f, _) =>
    { placeWord f (BitVec.ofNat 24 w) s with trace := .row f (BitVec.ofNat 24 w) 0 :: s.trace }
  | none => { s with trace := unreadableLine nbits w :: s.trace }

end Sys2Proof.Machine
end

