-- ==== Sys2Proof/Machine/Step.lean ====
section
/-!
DEFINITION. One step of the block, and the placing of a table word for it.
-/

namespace Sys2Proof.Machine

/-- One step: one rule of one agent (R3, R71). -/
def step (s : State) : Host.Outcome State Fault Refusal :=
  s.advance

/-- The table's word, stored where the next step takes its instruction from (log entry 8). -/
def State.withFetchWord (s : State) (nbits w : Nat) : State :=
  s.placeTableWord nbits w

end Sys2Proof.Machine
end

