-- ==== Sys2Proof/Laws/State.lean ====
section
/-!
SUPPORT. One lemma per field for each named update of the state, so that no later proof unfolds one.
-/

namespace Sys2Proof.Machine

/-! ### `PerBuf` -/

@[simp] theorem PerBuf.get_a {α : Type} (p : PerBuf α) : p.get .a = p.a := rfl
@[simp] theorem PerBuf.get_b {α : Type} (p : PerBuf α) : p.get .b = p.b := rfl
@[simp] theorem PerBuf.set_a {α : Type} (p : PerBuf α) (v : α) : p.set .a v = ⟨v, p.b⟩ := rfl
@[simp] theorem PerBuf.set_b {α : Type} (p : PerBuf α) (v : α) : p.set .b v = ⟨p.a, v⟩ := rfl

@[simp] theorem PerBuf.get_set_same {α : Type} (p : PerBuf α) (x : Buf) (v : α) :
    (p.set x v).get x = v := by
  cases x <;> rfl

theorem PerBuf.get_set_other {α : Type} (p : PerBuf α) {x y : Buf} (v : α) (h : y ≠ x) :
    (p.set x v).get y = p.get y := by
  cases x <;> cases y <;> first | rfl | exact absurd rfl h

@[simp] theorem otherBuf_a : otherBuf .a = .b := rfl
@[simp] theorem otherBuf_b : otherBuf .b = .a := rfl

theorem otherBuf_ne (x : Buf) : otherBuf x ≠ x := by
  cases x <;> decide

@[simp] theorem otherBuf_otherBuf (x : Buf) : otherBuf (otherBuf x) = x := by
  cases x <;> rfl

/-! ### `State.pushUq` -/

@[simp] theorem State.pushUq_params (s : State) (x : Byte) : (s.pushUq x).params = s.params := rfl
@[simp] theorem State.pushUq_ctu_run (s : State) (x : Byte) : (s.pushUq x).ctu.run = s.ctu.run := rfl
@[simp] theorem State.pushUq_ctu_cfgErr (s : State) (x : Byte) : (s.pushUq x).ctu.cfgErr = s.ctu.cfgErr := rfl
@[simp] theorem State.pushUq_ctu_clkdiv (s : State) (x : Byte) : (s.pushUq x).ctu.clkdiv = s.ctu.clkdiv := rfl
@[simp] theorem State.pushUq_ctu_act (s : State) (x : Byte) : (s.pushUq x).ctu.act = s.ctu.act := rfl
@[simp] theorem State.pushUq_ctu_idx (s : State) (x : Byte) : (s.pushUq x).ctu.idx = s.ctu.idx := rfl
@[simp] theorem State.pushUq_ctu_rrCh (s : State) (x : Byte) : (s.pushUq x).ctu.rrCh = s.ctu.rrCh := rfl
@[simp] theorem State.pushUq_ctu_mem (s : State) (x : Byte) : (s.pushUq x).ctu.mem = s.ctu.mem := rfl
@[simp] theorem State.pushUq_ctu_bufEpoch (s : State) (x : Byte) : (s.pushUq x).ctu.bufEpoch = s.ctu.bufEpoch := rfl
@[simp] theorem State.pushUq_ctu_ready (s : State) (x : Byte) : (s.pushUq x).ctu.ready = s.ctu.ready := rfl
@[simp] theorem State.pushUq_ctu_cnt (s : State) (x : Byte) : (s.pushUq x).ctu.cnt = s.ctu.cnt := rfl
@[simp] theorem State.pushUq_ctu_intr (s : State) (x : Byte) : (s.pushUq x).ctu.intr = s.ctu.intr := rfl
@[simp] theorem State.pushUq_ctu_inte (s : State) (x : Byte) : (s.pushUq x).ctu.inte = s.ctu.inte := rfl
@[simp] theorem State.pushUq_ctu_txSt (s : State) (x : Byte) : (s.pushUq x).ctu.txSt = s.ctu.txSt := rfl
@[simp] theorem State.pushUq_ctu_txBuf (s : State) (x : Byte) : (s.pushUq x).ctu.txBuf = s.ctu.txBuf := rfl
@[simp] theorem State.pushUq_ctu_txI (s : State) (x : Byte) : (s.pushUq x).ctu.txI = s.ctu.txI := rfl
@[simp] theorem State.pushUq_ctu_txWord (s : State) (x : Byte) : (s.pushUq x).ctu.txWord = s.ctu.txWord := rfl
@[simp] theorem State.pushUq_ctu_uq (s : State) (x : Byte) : (s.pushUq x).ctu.uq = s.ctu.uq ++ [x] := rfl
@[simp] theorem State.pushUq_wire (s : State) (x : Byte) : (s.pushUq x).wire = s.wire := rfl
@[simp] theorem State.pushUq_rdu (s : State) (x : Byte) : (s.pushUq x).rdu = s.rdu := rfl
@[simp] theorem State.pushUq_pcmOut (s : State) (x : Byte) : (s.pushUq x).pcmOut = s.pcmOut := rfl
@[simp] theorem State.pushUq_ctuBus (s : State) (x : Byte) : (s.pushUq x).ctuBus = s.ctuBus := rfl
@[simp] theorem State.pushUq_rduBus (s : State) (x : Byte) : (s.pushUq x).rduBus = s.rduBus := rfl
@[simp] theorem State.pushUq_encOut (s : State) (x : Byte) : (s.pushUq x).encOut = s.encOut := rfl
@[simp] theorem State.pushUq_trace (s : State) (x : Byte) : (s.pushUq x).trace = s.trace := rfl
@[simp] theorem State.pushUq_tick (s : State) (x : Byte) : (s.pushUq x).tick = s.tick := rfl

/-! ### `State.pushRxq` -/

@[simp] theorem State.pushRxq_params (s : State) (e : RxEvent) : (s.pushRxq e).params = s.params := rfl
@[simp] theorem State.pushRxq_ctu (s : State) (e : RxEvent) : (s.pushRxq e).ctu = s.ctu := rfl
@[simp] theorem State.pushRxq_wire (s : State) (e : RxEvent) : (s.pushRxq e).wire = s.wire := rfl
@[simp] theorem State.pushRxq_rdu_rxq (s : State) (e : RxEvent) : (s.pushRxq e).rdu.rxq = s.rdu.rxq ++ [e] := rfl
@[simp] theorem State.pushRxq_rdu_sst (s : State) (e : RxEvent) : (s.pushRxq e).rdu.sst = s.rdu.sst := rfl
@[simp] theorem State.pushRxq_rdu_phase (s : State) (e : RxEvent) : (s.pushRxq e).rdu.phase = s.rdu.phase := rfl
@[simp] theorem State.pushRxq_rdu_haveLo (s : State) (e : RxEvent) : (s.pushRxq e).rdu.haveLo = s.rdu.haveLo := rfl
@[simp] theorem State.pushRxq_rdu_loByte (s : State) (e : RxEvent) : (s.pushRxq e).rdu.loByte = s.rdu.loByte := rfl
@[simp] theorem State.pushRxq_rdu_leftVal (s : State) (e : RxEvent) : (s.pushRxq e).rdu.leftVal = s.rdu.leftVal := rfl
@[simp] theorem State.pushRxq_rdu_outValid (s : State) (e : RxEvent) : (s.pushRxq e).rdu.outValid = s.rdu.outValid := rfl
@[simp] theorem State.pushRxq_rdu_outL (s : State) (e : RxEvent) : (s.pushRxq e).rdu.outL = s.rdu.outL := rfl
@[simp] theorem State.pushRxq_rdu_outR (s : State) (e : RxEvent) : (s.pushRxq e).rdu.outR = s.rdu.outR := rfl
@[simp] theorem State.pushRxq_rdu_syncOffset (s : State) (e : RxEvent) : (s.pushRxq e).rdu.syncOffset = s.rdu.syncOffset := rfl
@[simp] theorem State.pushRxq_rdu_syncErr (s : State) (e : RxEvent) : (s.pushRxq e).rdu.syncErr = s.rdu.syncErr := rfl
@[simp] theorem State.pushRxq_rdu_rdErr (s : State) (e : RxEvent) : (s.pushRxq e).rdu.rdErr = s.rdu.rdErr := rfl
@[simp] theorem State.pushRxq_rdu_syncErrCnt (s : State) (e : RxEvent) : (s.pushRxq e).rdu.syncErrCnt = s.rdu.syncErrCnt := rfl
@[simp] theorem State.pushRxq_rdu_rdErrCnt (s : State) (e : RxEvent) : (s.pushRxq e).rdu.rdErrCnt = s.rdu.rdErrCnt := rfl
@[simp] theorem State.pushRxq_rdu_boundaryCnt (s : State) (e : RxEvent) : (s.pushRxq e).rdu.boundaryCnt = s.rdu.boundaryCnt := rfl
@[simp] theorem State.pushRxq_rdu_frameCnt (s : State) (e : RxEvent) : (s.pushRxq e).rdu.frameCnt = s.rdu.frameCnt := rfl
@[simp] theorem State.pushRxq_rdu_rxOpen (s : State) (e : RxEvent) : (s.pushRxq e).rdu.rxOpen = s.rdu.rxOpen := rfl
@[simp] theorem State.pushRxq_pcmOut (s : State) (e : RxEvent) : (s.pushRxq e).pcmOut = s.pcmOut := rfl
@[simp] theorem State.pushRxq_ctuBus (s : State) (e : RxEvent) : (s.pushRxq e).ctuBus = s.ctuBus := rfl
@[simp] theorem State.pushRxq_rduBus (s : State) (e : RxEvent) : (s.pushRxq e).rduBus = s.rduBus := rfl
@[simp] theorem State.pushRxq_encOut (s : State) (e : RxEvent) : (s.pushRxq e).encOut = s.encOut := rfl
@[simp] theorem State.pushRxq_trace (s : State) (e : RxEvent) : (s.pushRxq e).trace = s.trace := rfl
@[simp] theorem State.pushRxq_tick (s : State) (e : RxEvent) : (s.pushRxq e).tick = s.tick := rfl

/-! ### `State.popWire` -/

@[simp] theorem State.popWire_params (s : State) : (s.popWire).params = s.params := rfl
@[simp] theorem State.popWire_ctu (s : State) : (s.popWire).ctu = s.ctu := rfl
@[simp] theorem State.popWire_wire (s : State) : (s.popWire).wire = s.wire.tail := rfl
@[simp] theorem State.popWire_rdu (s : State) : (s.popWire).rdu = s.rdu := rfl
@[simp] theorem State.popWire_pcmOut (s : State) : (s.popWire).pcmOut = s.pcmOut := rfl
@[simp] theorem State.popWire_ctuBus (s : State) : (s.popWire).ctuBus = s.ctuBus := rfl
@[simp] theorem State.popWire_rduBus (s : State) : (s.popWire).rduBus = s.rduBus := rfl
@[simp] theorem State.popWire_encOut (s : State) : (s.popWire).encOut = s.encOut := rfl
@[simp] theorem State.popWire_trace (s : State) : (s.popWire).trace = s.trace := rfl
@[simp] theorem State.popWire_tick (s : State) : (s.popWire).tick = s.tick := rfl

/-! ### `State.takeEvent` -/

@[simp] theorem State.takeEvent_params (s : State) : (s.takeEvent).params = s.params := rfl
@[simp] theorem State.takeEvent_ctu (s : State) : (s.takeEvent).ctu = s.ctu := rfl
@[simp] theorem State.takeEvent_wire (s : State) : (s.takeEvent).wire = s.wire := rfl
@[simp] theorem State.takeEvent_rdu_rxq (s : State) : (s.takeEvent).rdu.rxq = s.rdu.rxq.tail := rfl
@[simp] theorem State.takeEvent_rdu_sst (s : State) : (s.takeEvent).rdu.sst = s.rdu.sst := rfl
@[simp] theorem State.takeEvent_rdu_phase (s : State) : (s.takeEvent).rdu.phase = s.rdu.phase := rfl
@[simp] theorem State.takeEvent_rdu_haveLo (s : State) : (s.takeEvent).rdu.haveLo = s.rdu.haveLo := rfl
@[simp] theorem State.takeEvent_rdu_loByte (s : State) : (s.takeEvent).rdu.loByte = s.rdu.loByte := rfl
@[simp] theorem State.takeEvent_rdu_leftVal (s : State) : (s.takeEvent).rdu.leftVal = s.rdu.leftVal := rfl
@[simp] theorem State.takeEvent_rdu_outValid (s : State) : (s.takeEvent).rdu.outValid = s.rdu.outValid := rfl
@[simp] theorem State.takeEvent_rdu_outL (s : State) : (s.takeEvent).rdu.outL = s.rdu.outL := rfl
@[simp] theorem State.takeEvent_rdu_outR (s : State) : (s.takeEvent).rdu.outR = s.rdu.outR := rfl
@[simp] theorem State.takeEvent_rdu_syncOffset (s : State) : (s.takeEvent).rdu.syncOffset = s.rdu.syncOffset := rfl
@[simp] theorem State.takeEvent_rdu_syncErr (s : State) : (s.takeEvent).rdu.syncErr = s.rdu.syncErr := rfl
@[simp] theorem State.takeEvent_rdu_rdErr (s : State) : (s.takeEvent).rdu.rdErr = s.rdu.rdErr := rfl
@[simp] theorem State.takeEvent_rdu_syncErrCnt (s : State) : (s.takeEvent).rdu.syncErrCnt = s.rdu.syncErrCnt := rfl
@[simp] theorem State.takeEvent_rdu_rdErrCnt (s : State) : (s.takeEvent).rdu.rdErrCnt = s.rdu.rdErrCnt := rfl
@[simp] theorem State.takeEvent_rdu_boundaryCnt (s : State) : (s.takeEvent).rdu.boundaryCnt = s.rdu.boundaryCnt := rfl
@[simp] theorem State.takeEvent_rdu_frameCnt (s : State) : (s.takeEvent).rdu.frameCnt = s.rdu.frameCnt := rfl
@[simp] theorem State.takeEvent_rdu_rxOpen (s : State) : (s.takeEvent).rdu.rxOpen = true := rfl
@[simp] theorem State.takeEvent_pcmOut (s : State) : (s.takeEvent).pcmOut = s.pcmOut := rfl
@[simp] theorem State.takeEvent_ctuBus (s : State) : (s.takeEvent).ctuBus = s.ctuBus := rfl
@[simp] theorem State.takeEvent_rduBus (s : State) : (s.takeEvent).rduBus = s.rduBus := rfl
@[simp] theorem State.takeEvent_encOut (s : State) : (s.takeEvent).encOut = s.encOut := rfl
@[simp] theorem State.takeEvent_trace (s : State) : (s.takeEvent).trace = s.trace := rfl
@[simp] theorem State.takeEvent_tick (s : State) : (s.takeEvent).tick = s.tick := rfl

/-! ### `State.countSyncByte` -/

@[simp] theorem State.countSyncByte_params (s : State) : (s.countSyncByte).params = s.params := rfl
@[simp] theorem State.countSyncByte_ctu (s : State) : (s.countSyncByte).ctu = s.ctu := rfl
@[simp] theorem State.countSyncByte_wire (s : State) : (s.countSyncByte).wire = s.wire := rfl
@[simp] theorem State.countSyncByte_rdu_rxq (s : State) : (s.countSyncByte).rdu.rxq = s.rdu.rxq := rfl
@[simp] theorem State.countSyncByte_rdu_sst (s : State) : (s.countSyncByte).rdu.sst = s.rdu.sst := rfl
@[simp] theorem State.countSyncByte_rdu_phase (s : State) : (s.countSyncByte).rdu.phase = s.rdu.phase := rfl
@[simp] theorem State.countSyncByte_rdu_haveLo (s : State) : (s.countSyncByte).rdu.haveLo = s.rdu.haveLo := rfl
@[simp] theorem State.countSyncByte_rdu_loByte (s : State) : (s.countSyncByte).rdu.loByte = s.rdu.loByte := rfl
@[simp] theorem State.countSyncByte_rdu_leftVal (s : State) : (s.countSyncByte).rdu.leftVal = s.rdu.leftVal := rfl
@[simp] theorem State.countSyncByte_rdu_outValid (s : State) : (s.countSyncByte).rdu.outValid = s.rdu.outValid := rfl
@[simp] theorem State.countSyncByte_rdu_outL (s : State) : (s.countSyncByte).rdu.outL = s.rdu.outL := rfl
@[simp] theorem State.countSyncByte_rdu_outR (s : State) : (s.countSyncByte).rdu.outR = s.rdu.outR := rfl
@[simp] theorem State.countSyncByte_rdu_syncOffset (s : State) : (s.countSyncByte).rdu.syncOffset = s.rdu.syncOffset + 1 := rfl
@[simp] theorem State.countSyncByte_rdu_syncErr (s : State) : (s.countSyncByte).rdu.syncErr = s.rdu.syncErr := rfl
@[simp] theorem State.countSyncByte_rdu_rdErr (s : State) : (s.countSyncByte).rdu.rdErr = s.rdu.rdErr := rfl
@[simp] theorem State.countSyncByte_rdu_syncErrCnt (s : State) : (s.countSyncByte).rdu.syncErrCnt = s.rdu.syncErrCnt := rfl
@[simp] theorem State.countSyncByte_rdu_rdErrCnt (s : State) : (s.countSyncByte).rdu.rdErrCnt = s.rdu.rdErrCnt := rfl
@[simp] theorem State.countSyncByte_rdu_boundaryCnt (s : State) : (s.countSyncByte).rdu.boundaryCnt = s.rdu.boundaryCnt := rfl
@[simp] theorem State.countSyncByte_rdu_frameCnt (s : State) : (s.countSyncByte).rdu.frameCnt = s.rdu.frameCnt := rfl
@[simp] theorem State.countSyncByte_rdu_rxOpen (s : State) : (s.countSyncByte).rdu.rxOpen = s.rdu.rxOpen := rfl
@[simp] theorem State.countSyncByte_pcmOut (s : State) : (s.countSyncByte).pcmOut = s.pcmOut := rfl
@[simp] theorem State.countSyncByte_ctuBus (s : State) : (s.countSyncByte).ctuBus = s.ctuBus := rfl
@[simp] theorem State.countSyncByte_rduBus (s : State) : (s.countSyncByte).rduBus = s.rduBus := rfl
@[simp] theorem State.countSyncByte_encOut (s : State) : (s.countSyncByte).encOut = s.encOut := rfl
@[simp] theorem State.countSyncByte_trace (s : State) : (s.countSyncByte).trace = s.trace := rfl
@[simp] theorem State.countSyncByte_tick (s : State) : (s.countSyncByte).tick = s.tick := rfl

/-! ### `State.ackIntr` -/

@[simp] theorem State.ackIntr_params (s : State) (d : Reg) : (s.ackIntr d).params = s.params := rfl
@[simp] theorem State.ackIntr_ctu_run (s : State) (d : Reg) : (s.ackIntr d).ctu.run = s.ctu.run := rfl
@[simp] theorem State.ackIntr_ctu_cfgErr (s : State) (d : Reg) : (s.ackIntr d).ctu.cfgErr = s.ctu.cfgErr := rfl
@[simp] theorem State.ackIntr_ctu_clkdiv (s : State) (d : Reg) : (s.ackIntr d).ctu.clkdiv = s.ctu.clkdiv := rfl
@[simp] theorem State.ackIntr_ctu_act (s : State) (d : Reg) : (s.ackIntr d).ctu.act = s.ctu.act := rfl
@[simp] theorem State.ackIntr_ctu_idx (s : State) (d : Reg) : (s.ackIntr d).ctu.idx = s.ctu.idx := rfl
@[simp] theorem State.ackIntr_ctu_rrCh (s : State) (d : Reg) : (s.ackIntr d).ctu.rrCh = s.ctu.rrCh := rfl
@[simp] theorem State.ackIntr_ctu_mem (s : State) (d : Reg) : (s.ackIntr d).ctu.mem = s.ctu.mem := rfl
@[simp] theorem State.ackIntr_ctu_bufEpoch (s : State) (d : Reg) : (s.ackIntr d).ctu.bufEpoch = s.ctu.bufEpoch := rfl
@[simp] theorem State.ackIntr_ctu_ready (s : State) (d : Reg) : (s.ackIntr d).ctu.ready = s.ctu.ready := rfl
@[simp] theorem State.ackIntr_ctu_cnt (s : State) (d : Reg) : (s.ackIntr d).ctu.cnt = s.ctu.cnt := rfl
@[simp] theorem State.ackIntr_ctu_intr (s : State) (d : Reg) : (s.ackIntr d).ctu.intr = ⟨s.ctu.intr.a && !d.getLsbD 0, s.ctu.intr.b && !d.getLsbD 1⟩ := rfl
@[simp] theorem State.ackIntr_ctu_inte (s : State) (d : Reg) : (s.ackIntr d).ctu.inte = s.ctu.inte := rfl
@[simp] theorem State.ackIntr_ctu_txSt (s : State) (d : Reg) : (s.ackIntr d).ctu.txSt = s.ctu.txSt := rfl
@[simp] theorem State.ackIntr_ctu_txBuf (s : State) (d : Reg) : (s.ackIntr d).ctu.txBuf = s.ctu.txBuf := rfl
@[simp] theorem State.ackIntr_ctu_txI (s : State) (d : Reg) : (s.ackIntr d).ctu.txI = s.ctu.txI := rfl
@[simp] theorem State.ackIntr_ctu_txWord (s : State) (d : Reg) : (s.ackIntr d).ctu.txWord = s.ctu.txWord := rfl
@[simp] theorem State.ackIntr_ctu_uq (s : State) (d : Reg) : (s.ackIntr d).ctu.uq = s.ctu.uq := rfl
@[simp] theorem State.ackIntr_wire (s : State) (d : Reg) : (s.ackIntr d).wire = s.wire := rfl
@[simp] theorem State.ackIntr_rdu (s : State) (d : Reg) : (s.ackIntr d).rdu = s.rdu := rfl
@[simp] theorem State.ackIntr_pcmOut (s : State) (d : Reg) : (s.ackIntr d).pcmOut = s.pcmOut := rfl
@[simp] theorem State.ackIntr_ctuBus (s : State) (d : Reg) : (s.ackIntr d).ctuBus = s.ctuBus := rfl
@[simp] theorem State.ackIntr_rduBus (s : State) (d : Reg) : (s.ackIntr d).rduBus = s.rduBus := rfl
@[simp] theorem State.ackIntr_encOut (s : State) (d : Reg) : (s.ackIntr d).encOut = s.encOut := rfl
@[simp] theorem State.ackIntr_trace (s : State) (d : Reg) : (s.ackIntr d).trace = s.trace := rfl
@[simp] theorem State.ackIntr_tick (s : State) (d : Reg) : (s.ackIntr d).tick = s.tick := rfl

/-! ### `State.ackErrors` -/

@[simp] theorem State.ackErrors_params (s : State) (d : Reg) : (s.ackErrors d).params = s.params := rfl
@[simp] theorem State.ackErrors_ctu (s : State) (d : Reg) : (s.ackErrors d).ctu = s.ctu := rfl
@[simp] theorem State.ackErrors_wire (s : State) (d : Reg) : (s.ackErrors d).wire = s.wire := rfl
@[simp] theorem State.ackErrors_rdu_rxq (s : State) (d : Reg) : (s.ackErrors d).rdu.rxq = s.rdu.rxq := rfl
@[simp] theorem State.ackErrors_rdu_sst (s : State) (d : Reg) : (s.ackErrors d).rdu.sst = s.rdu.sst := rfl
@[simp] theorem State.ackErrors_rdu_phase (s : State) (d : Reg) : (s.ackErrors d).rdu.phase = s.rdu.phase := rfl
@[simp] theorem State.ackErrors_rdu_haveLo (s : State) (d : Reg) : (s.ackErrors d).rdu.haveLo = s.rdu.haveLo := rfl
@[simp] theorem State.ackErrors_rdu_loByte (s : State) (d : Reg) : (s.ackErrors d).rdu.loByte = s.rdu.loByte := rfl
@[simp] theorem State.ackErrors_rdu_leftVal (s : State) (d : Reg) : (s.ackErrors d).rdu.leftVal = s.rdu.leftVal := rfl
@[simp] theorem State.ackErrors_rdu_outValid (s : State) (d : Reg) : (s.ackErrors d).rdu.outValid = s.rdu.outValid := rfl
@[simp] theorem State.ackErrors_rdu_outL (s : State) (d : Reg) : (s.ackErrors d).rdu.outL = s.rdu.outL := rfl
@[simp] theorem State.ackErrors_rdu_outR (s : State) (d : Reg) : (s.ackErrors d).rdu.outR = s.rdu.outR := rfl
@[simp] theorem State.ackErrors_rdu_syncOffset (s : State) (d : Reg) : (s.ackErrors d).rdu.syncOffset = s.rdu.syncOffset := rfl
@[simp] theorem State.ackErrors_rdu_syncErr (s : State) (d : Reg) : (s.ackErrors d).rdu.syncErr = (s.rdu.syncErr && !d.getLsbD 5) := rfl
@[simp] theorem State.ackErrors_rdu_rdErr (s : State) (d : Reg) : (s.ackErrors d).rdu.rdErr = (s.rdu.rdErr && !d.getLsbD 6) := rfl
@[simp] theorem State.ackErrors_rdu_syncErrCnt (s : State) (d : Reg) : (s.ackErrors d).rdu.syncErrCnt = s.rdu.syncErrCnt := rfl
@[simp] theorem State.ackErrors_rdu_rdErrCnt (s : State) (d : Reg) : (s.ackErrors d).rdu.rdErrCnt = s.rdu.rdErrCnt := rfl
@[simp] theorem State.ackErrors_rdu_boundaryCnt (s : State) (d : Reg) : (s.ackErrors d).rdu.boundaryCnt = s.rdu.boundaryCnt := rfl
@[simp] theorem State.ackErrors_rdu_frameCnt (s : State) (d : Reg) : (s.ackErrors d).rdu.frameCnt = s.rdu.frameCnt := rfl
@[simp] theorem State.ackErrors_rdu_rxOpen (s : State) (d : Reg) : (s.ackErrors d).rdu.rxOpen = s.rdu.rxOpen := rfl
@[simp] theorem State.ackErrors_pcmOut (s : State) (d : Reg) : (s.ackErrors d).pcmOut = s.pcmOut := rfl
@[simp] theorem State.ackErrors_ctuBus (s : State) (d : Reg) : (s.ackErrors d).ctuBus = s.ctuBus := rfl
@[simp] theorem State.ackErrors_rduBus (s : State) (d : Reg) : (s.ackErrors d).rduBus = s.rduBus := rfl
@[simp] theorem State.ackErrors_encOut (s : State) (d : Reg) : (s.ackErrors d).encOut = s.encOut := rfl
@[simp] theorem State.ackErrors_trace (s : State) (d : Reg) : (s.ackErrors d).trace = s.trace := rfl
@[simp] theorem State.ackErrors_tick (s : State) (d : Reg) : (s.ackErrors d).tick = s.tick := rfl

/-! ### `State.selectBuf` -/

@[simp] theorem State.selectBuf_params (s : State) (x : Buf) : (s.selectBuf x).params = s.params := rfl
@[simp] theorem State.selectBuf_ctu_run (s : State) (x : Buf) : (s.selectBuf x).ctu.run = s.ctu.run := rfl
@[simp] theorem State.selectBuf_ctu_cfgErr (s : State) (x : Buf) : (s.selectBuf x).ctu.cfgErr = s.ctu.cfgErr := rfl
@[simp] theorem State.selectBuf_ctu_clkdiv (s : State) (x : Buf) : (s.selectBuf x).ctu.clkdiv = s.ctu.clkdiv := rfl
@[simp] theorem State.selectBuf_ctu_act (s : State) (x : Buf) : (s.selectBuf x).ctu.act = s.ctu.act := rfl
@[simp] theorem State.selectBuf_ctu_idx (s : State) (x : Buf) : (s.selectBuf x).ctu.idx = s.ctu.idx := rfl
@[simp] theorem State.selectBuf_ctu_rrCh (s : State) (x : Buf) : (s.selectBuf x).ctu.rrCh = s.ctu.rrCh := rfl
@[simp] theorem State.selectBuf_ctu_mem (s : State) (x : Buf) : (s.selectBuf x).ctu.mem = s.ctu.mem := rfl
@[simp] theorem State.selectBuf_ctu_bufEpoch (s : State) (x : Buf) : (s.selectBuf x).ctu.bufEpoch = s.ctu.bufEpoch := rfl
@[simp] theorem State.selectBuf_ctu_ready (s : State) (x : Buf) : (s.selectBuf x).ctu.ready = s.ctu.ready := rfl
@[simp] theorem State.selectBuf_ctu_cnt (s : State) (x : Buf) : (s.selectBuf x).ctu.cnt = s.ctu.cnt := rfl
@[simp] theorem State.selectBuf_ctu_intr (s : State) (x : Buf) : (s.selectBuf x).ctu.intr = s.ctu.intr := rfl
@[simp] theorem State.selectBuf_ctu_inte (s : State) (x : Buf) : (s.selectBuf x).ctu.inte = s.ctu.inte := rfl
@[simp] theorem State.selectBuf_ctu_txSt (s : State) (x : Buf) : (s.selectBuf x).ctu.txSt = .dataLo := rfl
@[simp] theorem State.selectBuf_ctu_txBuf (s : State) (x : Buf) : (s.selectBuf x).ctu.txBuf = x := rfl
@[simp] theorem State.selectBuf_ctu_txI (s : State) (x : Buf) : (s.selectBuf x).ctu.txI = 0 := rfl
@[simp] theorem State.selectBuf_ctu_txWord (s : State) (x : Buf) : (s.selectBuf x).ctu.txWord = s.ctu.txWord := rfl
@[simp] theorem State.selectBuf_ctu_uq (s : State) (x : Buf) : (s.selectBuf x).ctu.uq = s.ctu.uq := rfl
@[simp] theorem State.selectBuf_wire (s : State) (x : Buf) : (s.selectBuf x).wire = s.wire := rfl
@[simp] theorem State.selectBuf_rdu (s : State) (x : Buf) : (s.selectBuf x).rdu = s.rdu := rfl
@[simp] theorem State.selectBuf_pcmOut (s : State) (x : Buf) : (s.selectBuf x).pcmOut = s.pcmOut := rfl
@[simp] theorem State.selectBuf_ctuBus (s : State) (x : Buf) : (s.selectBuf x).ctuBus = s.ctuBus := rfl
@[simp] theorem State.selectBuf_rduBus (s : State) (x : Buf) : (s.selectBuf x).rduBus = s.rduBus := rfl
@[simp] theorem State.selectBuf_encOut (s : State) (x : Buf) : (s.selectBuf x).encOut = s.encOut := rfl
@[simp] theorem State.selectBuf_trace (s : State) (x : Buf) : (s.selectBuf x).trace = s.trace := rfl
@[simp] theorem State.selectBuf_tick (s : State) (x : Buf) : (s.selectBuf x).tick = s.tick := rfl

/-! ### `State.complete` -/

@[simp] theorem State.complete_params (s : State) (x : Buf) : (s.complete x).params = s.params := rfl
@[simp] theorem State.complete_ctu_run (s : State) (x : Buf) : (s.complete x).ctu.run = s.ctu.run := rfl
@[simp] theorem State.complete_ctu_cfgErr (s : State) (x : Buf) : (s.complete x).ctu.cfgErr = s.ctu.cfgErr := rfl
@[simp] theorem State.complete_ctu_clkdiv (s : State) (x : Buf) : (s.complete x).ctu.clkdiv = s.ctu.clkdiv := rfl
@[simp] theorem State.complete_ctu_act (s : State) (x : Buf) : (s.complete x).ctu.act = s.ctu.act := rfl
@[simp] theorem State.complete_ctu_idx (s : State) (x : Buf) : (s.complete x).ctu.idx = s.ctu.idx := rfl
@[simp] theorem State.complete_ctu_rrCh (s : State) (x : Buf) : (s.complete x).ctu.rrCh = s.ctu.rrCh := rfl
@[simp] theorem State.complete_ctu_mem (s : State) (x : Buf) : (s.complete x).ctu.mem = s.ctu.mem := rfl
@[simp] theorem State.complete_ctu_bufEpoch (s : State) (x : Buf) : (s.complete x).ctu.bufEpoch = s.ctu.bufEpoch := rfl
@[simp] theorem State.complete_ctu_ready (s : State) (x : Buf) : (s.complete x).ctu.ready = s.ctu.ready.set x true := rfl
@[simp] theorem State.complete_ctu_cnt (s : State) (x : Buf) : (s.complete x).ctu.cnt = s.ctu.cnt.set x (s.ctu.cnt.get x + 1) := rfl
@[simp] theorem State.complete_ctu_intr (s : State) (x : Buf) : (s.complete x).ctu.intr = s.ctu.intr.set x true := rfl
@[simp] theorem State.complete_ctu_inte (s : State) (x : Buf) : (s.complete x).ctu.inte = s.ctu.inte := rfl
@[simp] theorem State.complete_ctu_txSt (s : State) (x : Buf) : (s.complete x).ctu.txSt = s.ctu.txSt := rfl
@[simp] theorem State.complete_ctu_txBuf (s : State) (x : Buf) : (s.complete x).ctu.txBuf = s.ctu.txBuf := rfl
@[simp] theorem State.complete_ctu_txI (s : State) (x : Buf) : (s.complete x).ctu.txI = s.ctu.txI := rfl
@[simp] theorem State.complete_ctu_txWord (s : State) (x : Buf) : (s.complete x).ctu.txWord = s.ctu.txWord := rfl
@[simp] theorem State.complete_ctu_uq (s : State) (x : Buf) : (s.complete x).ctu.uq = s.ctu.uq := rfl
@[simp] theorem State.complete_wire (s : State) (x : Buf) : (s.complete x).wire = s.wire := rfl
@[simp] theorem State.complete_rdu (s : State) (x : Buf) : (s.complete x).rdu = s.rdu := rfl
@[simp] theorem State.complete_pcmOut (s : State) (x : Buf) : (s.complete x).pcmOut = s.pcmOut := rfl
@[simp] theorem State.complete_ctuBus (s : State) (x : Buf) : (s.complete x).ctuBus = s.ctuBus := rfl
@[simp] theorem State.complete_rduBus (s : State) (x : Buf) : (s.complete x).rduBus = s.rduBus := rfl
@[simp] theorem State.complete_encOut (s : State) (x : Buf) : (s.complete x).encOut = s.encOut := rfl
@[simp] theorem State.complete_trace (s : State) (x : Buf) : (s.complete x).trace = s.trace := rfl
@[simp] theorem State.complete_tick (s : State) (x : Buf) : (s.complete x).tick = s.tick := rfl

/-! ### `State.evalEnc` -/

@[simp] theorem State.evalEnc_params (s : State) (w : Half) : (s.evalEnc w).params = s.params := rfl
@[simp] theorem State.evalEnc_ctu (s : State) (w : Half) : (s.evalEnc w).ctu = s.ctu := rfl
@[simp] theorem State.evalEnc_wire (s : State) (w : Half) : (s.evalEnc w).wire = s.wire := rfl
@[simp] theorem State.evalEnc_rdu (s : State) (w : Half) : (s.evalEnc w).rdu = s.rdu := rfl
@[simp] theorem State.evalEnc_pcmOut (s : State) (w : Half) : (s.evalEnc w).pcmOut = s.pcmOut := rfl
@[simp] theorem State.evalEnc_ctuBus (s : State) (w : Half) : (s.evalEnc w).ctuBus = s.ctuBus := rfl
@[simp] theorem State.evalEnc_rduBus (s : State) (w : Half) : (s.evalEnc w).rduBus = s.rduBus := rfl
@[simp] theorem State.evalEnc_encOut (s : State) (w : Half) : (s.evalEnc w).encOut = encWord s.params w := rfl
@[simp] theorem State.evalEnc_trace (s : State) (w : Half) : (s.evalEnc w).trace = s.trace := rfl
@[simp] theorem State.evalEnc_tick (s : State) (w : Half) : (s.evalEnc w).tick = s.tick := rfl

/-! ### `State.raise` -/

@[simp] theorem State.raise_params (s : State) (e : ErrorCond) : (s.raise e).params = s.params := by cases e <;> rfl
@[simp] theorem State.raise_wire (s : State) (e : ErrorCond) : (s.raise e).wire = s.wire := by cases e <;> rfl
@[simp] theorem State.raise_pcmOut (s : State) (e : ErrorCond) : (s.raise e).pcmOut = s.pcmOut := by cases e <;> rfl
@[simp] theorem State.raise_ctuBus (s : State) (e : ErrorCond) : (s.raise e).ctuBus = s.ctuBus := by cases e <;> rfl
@[simp] theorem State.raise_rduBus (s : State) (e : ErrorCond) : (s.raise e).rduBus = s.rduBus := by cases e <;> rfl
@[simp] theorem State.raise_encOut (s : State) (e : ErrorCond) : (s.raise e).encOut = s.encOut := by cases e <;> rfl
@[simp] theorem State.raise_trace (s : State) (e : ErrorCond) : (s.raise e).trace = s.trace := by cases e <;> rfl
@[simp] theorem State.raise_tick (s : State) (e : ErrorCond) : (s.raise e).tick = s.tick := by cases e <;> rfl
@[simp] theorem State.raise_busErr (s : State) : s.raise .busErr = s := rfl
@[simp] theorem State.raise_cfgErr_rdu (s : State) : (s.raise .cfgErr).rdu = s.rdu := rfl
@[simp] theorem State.raise_cfgErr_ctu_run (s : State) : (s.raise .cfgErr).ctu.run = s.ctu.run := rfl
@[simp] theorem State.raise_cfgErr_ctu_cfgErr (s : State) : (s.raise .cfgErr).ctu.cfgErr = true := rfl
@[simp] theorem State.raise_cfgErr_ctu_clkdiv (s : State) : (s.raise .cfgErr).ctu.clkdiv = s.ctu.clkdiv := rfl
@[simp] theorem State.raise_cfgErr_ctu_act (s : State) : (s.raise .cfgErr).ctu.act = s.ctu.act := rfl
@[simp] theorem State.raise_cfgErr_ctu_idx (s : State) : (s.raise .cfgErr).ctu.idx = s.ctu.idx := rfl
@[simp] theorem State.raise_cfgErr_ctu_rrCh (s : State) : (s.raise .cfgErr).ctu.rrCh = s.ctu.rrCh := rfl
@[simp] theorem State.raise_cfgErr_ctu_mem (s : State) : (s.raise .cfgErr).ctu.mem = s.ctu.mem := rfl
@[simp] theorem State.raise_cfgErr_ctu_bufEpoch (s : State) : (s.raise .cfgErr).ctu.bufEpoch = s.ctu.bufEpoch := rfl
@[simp] theorem State.raise_cfgErr_ctu_ready (s : State) : (s.raise .cfgErr).ctu.ready = s.ctu.ready := rfl
@[simp] theorem State.raise_cfgErr_ctu_cnt (s : State) : (s.raise .cfgErr).ctu.cnt = s.ctu.cnt := rfl
@[simp] theorem State.raise_cfgErr_ctu_intr (s : State) : (s.raise .cfgErr).ctu.intr = s.ctu.intr := rfl
@[simp] theorem State.raise_cfgErr_ctu_inte (s : State) : (s.raise .cfgErr).ctu.inte = s.ctu.inte := rfl
@[simp] theorem State.raise_cfgErr_ctu_txSt (s : State) : (s.raise .cfgErr).ctu.txSt = s.ctu.txSt := rfl
@[simp] theorem State.raise_cfgErr_ctu_txBuf (s : State) : (s.raise .cfgErr).ctu.txBuf = s.ctu.txBuf := rfl
@[simp] theorem State.raise_cfgErr_ctu_txI (s : State) : (s.raise .cfgErr).ctu.txI = s.ctu.txI := rfl
@[simp] theorem State.raise_cfgErr_ctu_txWord (s : State) : (s.raise .cfgErr).ctu.txWord = s.ctu.txWord := rfl
@[simp] theorem State.raise_cfgErr_ctu_uq (s : State) : (s.raise .cfgErr).ctu.uq = s.ctu.uq := rfl
@[simp] theorem State.raise_syncErr_ctu (s : State) : (s.raise .syncErr).ctu = s.ctu := rfl
@[simp] theorem State.raise_syncErr_rdu_rxq (s : State) : (s.raise .syncErr).rdu.rxq = s.rdu.rxq := rfl
@[simp] theorem State.raise_syncErr_rdu_sst (s : State) : (s.raise .syncErr).rdu.sst = s.rdu.sst := rfl
@[simp] theorem State.raise_syncErr_rdu_phase (s : State) : (s.raise .syncErr).rdu.phase = s.rdu.phase := rfl
@[simp] theorem State.raise_syncErr_rdu_haveLo (s : State) : (s.raise .syncErr).rdu.haveLo = s.rdu.haveLo := rfl
@[simp] theorem State.raise_syncErr_rdu_loByte (s : State) : (s.raise .syncErr).rdu.loByte = s.rdu.loByte := rfl
@[simp] theorem State.raise_syncErr_rdu_leftVal (s : State) : (s.raise .syncErr).rdu.leftVal = s.rdu.leftVal := rfl
@[simp] theorem State.raise_syncErr_rdu_outValid (s : State) : (s.raise .syncErr).rdu.outValid = s.rdu.outValid := rfl
@[simp] theorem State.raise_syncErr_rdu_outL (s : State) : (s.raise .syncErr).rdu.outL = s.rdu.outL := rfl
@[simp] theorem State.raise_syncErr_rdu_outR (s : State) : (s.raise .syncErr).rdu.outR = s.rdu.outR := rfl
@[simp] theorem State.raise_syncErr_rdu_syncOffset (s : State) : (s.raise .syncErr).rdu.syncOffset = s.rdu.syncOffset := rfl
@[simp] theorem State.raise_syncErr_rdu_syncErr (s : State) : (s.raise .syncErr).rdu.syncErr = true := rfl
@[simp] theorem State.raise_syncErr_rdu_rdErr (s : State) : (s.raise .syncErr).rdu.rdErr = s.rdu.rdErr := rfl
@[simp] theorem State.raise_syncErr_rdu_syncErrCnt (s : State) : (s.raise .syncErr).rdu.syncErrCnt = s.rdu.syncErrCnt + 1 := rfl
@[simp] theorem State.raise_syncErr_rdu_rdErrCnt (s : State) : (s.raise .syncErr).rdu.rdErrCnt = s.rdu.rdErrCnt := rfl
@[simp] theorem State.raise_syncErr_rdu_boundaryCnt (s : State) : (s.raise .syncErr).rdu.boundaryCnt = s.rdu.boundaryCnt := rfl
@[simp] theorem State.raise_syncErr_rdu_frameCnt (s : State) : (s.raise .syncErr).rdu.frameCnt = s.rdu.frameCnt := rfl
@[simp] theorem State.raise_syncErr_rdu_rxOpen (s : State) : (s.raise .syncErr).rdu.rxOpen = s.rdu.rxOpen := rfl
@[simp] theorem State.raise_rdErr_ctu (s : State) : (s.raise .rdErr).ctu = s.ctu := rfl
@[simp] theorem State.raise_rdErr_rdu_rxq (s : State) : (s.raise .rdErr).rdu.rxq = s.rdu.rxq := rfl
@[simp] theorem State.raise_rdErr_rdu_sst (s : State) : (s.raise .rdErr).rdu.sst = s.rdu.sst := rfl
@[simp] theorem State.raise_rdErr_rdu_phase (s : State) : (s.raise .rdErr).rdu.phase = s.rdu.phase := rfl
@[simp] theorem State.raise_rdErr_rdu_haveLo (s : State) : (s.raise .rdErr).rdu.haveLo = s.rdu.haveLo := rfl
@[simp] theorem State.raise_rdErr_rdu_loByte (s : State) : (s.raise .rdErr).rdu.loByte = s.rdu.loByte := rfl
@[simp] theorem State.raise_rdErr_rdu_leftVal (s : State) : (s.raise .rdErr).rdu.leftVal = s.rdu.leftVal := rfl
@[simp] theorem State.raise_rdErr_rdu_outValid (s : State) : (s.raise .rdErr).rdu.outValid = s.rdu.outValid := rfl
@[simp] theorem State.raise_rdErr_rdu_outL (s : State) : (s.raise .rdErr).rdu.outL = s.rdu.outL := rfl
@[simp] theorem State.raise_rdErr_rdu_outR (s : State) : (s.raise .rdErr).rdu.outR = s.rdu.outR := rfl
@[simp] theorem State.raise_rdErr_rdu_syncOffset (s : State) : (s.raise .rdErr).rdu.syncOffset = s.rdu.syncOffset := rfl
@[simp] theorem State.raise_rdErr_rdu_syncErr (s : State) : (s.raise .rdErr).rdu.syncErr = s.rdu.syncErr := rfl
@[simp] theorem State.raise_rdErr_rdu_rdErr (s : State) : (s.raise .rdErr).rdu.rdErr = true := rfl
@[simp] theorem State.raise_rdErr_rdu_syncErrCnt (s : State) : (s.raise .rdErr).rdu.syncErrCnt = s.rdu.syncErrCnt := rfl
@[simp] theorem State.raise_rdErr_rdu_rdErrCnt (s : State) : (s.raise .rdErr).rdu.rdErrCnt = s.rdu.rdErrCnt + 1 := rfl
@[simp] theorem State.raise_rdErr_rdu_boundaryCnt (s : State) : (s.raise .rdErr).rdu.boundaryCnt = s.rdu.boundaryCnt := rfl
@[simp] theorem State.raise_rdErr_rdu_frameCnt (s : State) : (s.raise .rdErr).rdu.frameCnt = s.rdu.frameCnt := rfl
@[simp] theorem State.raise_rdErr_rdu_rxOpen (s : State) : (s.raise .rdErr).rdu.rxOpen = s.rdu.rxOpen := rfl

/-! ### `State.respond` -/

@[simp] theorem State.respond_params (s : State) (u : BusUnit) (r : BusResp) : (s.respond u r).params = s.params := by cases u <;> rfl
@[simp] theorem State.respond_ctu (s : State) (u : BusUnit) (r : BusResp) : (s.respond u r).ctu = s.ctu := by cases u <;> rfl
@[simp] theorem State.respond_wire (s : State) (u : BusUnit) (r : BusResp) : (s.respond u r).wire = s.wire := by cases u <;> rfl
@[simp] theorem State.respond_rdu (s : State) (u : BusUnit) (r : BusResp) : (s.respond u r).rdu = s.rdu := by cases u <;> rfl
@[simp] theorem State.respond_pcmOut (s : State) (u : BusUnit) (r : BusResp) : (s.respond u r).pcmOut = s.pcmOut := by cases u <;> rfl
@[simp] theorem State.respond_ctu_ctuBus (s : State) (r : BusResp) : (s.respond .ctu r).ctuBus = r := rfl
@[simp] theorem State.respond_rdu_ctuBus (s : State) (r : BusResp) : (s.respond .rdu r).ctuBus = s.ctuBus := rfl
@[simp] theorem State.respond_rdu_rduBus (s : State) (r : BusResp) : (s.respond .rdu r).rduBus = r := rfl
@[simp] theorem State.respond_ctu_rduBus (s : State) (r : BusResp) : (s.respond .ctu r).rduBus = s.rduBus := rfl
@[simp] theorem State.respond_encOut (s : State) (u : BusUnit) (r : BusResp) : (s.respond u r).encOut = s.encOut := by cases u <;> rfl
@[simp] theorem State.respond_trace (s : State) (u : BusUnit) (r : BusResp) : (s.respond u r).trace = s.trace := by cases u <;> rfl
@[simp] theorem State.respond_tick (s : State) (u : BusUnit) (r : BusResp) : (s.respond u r).tick = s.tick := by cases u <;> rfl

end Sys2Proof.Machine
end

