-- ==== Sys2Proof/Laws/Memory.lean ====
section
/-!
SUPPORT. The laws of the buffer arenas: a read after a write, the canonical form, and that two cells never
overlap.
-/

namespace Sys2Proof.Machine

/-! ### One byte -/

theorem Memory.lookup_write_same (m : List Host.Cell) (a : Nat) (v : Byte) :
    Memory.lookup (Memory.write m a v) a = some v := by
  induction m with
  | nil => simp [Memory.write, Memory.lookup]
  | cons c rest ih =>
    obtain ⟨k, u⟩ := c
    unfold Memory.write
    split
    · simp [Memory.lookup]
    · split
      · simp [Memory.lookup]
      · simp [Memory.lookup, ih, show ¬k = a by omega]

theorem Memory.lookup_write_other (m : List Host.Cell) {a b : Nat} (v : Byte) (h : b ≠ a) :
    Memory.lookup (Memory.write m a v) b = Memory.lookup m b := by
  induction m with
  | nil => simp [Memory.write, Memory.lookup, Ne.symm h]
  | cons c rest ih =>
    obtain ⟨k, u⟩ := c
    unfold Memory.write
    split
    · simp [Memory.lookup, Ne.symm h]
    · split
      · next _ hk => subst hk; simp [Memory.lookup, Ne.symm h]
      · simp [Memory.lookup, ih]

theorem Memory.lookup_write (m : List Host.Cell) (a b : Nat) (v : Byte) :
    Memory.lookup (Memory.write m a v) b = if b = a then some v else Memory.lookup m b := by
  split
  · next h => subst h; exact Memory.lookup_write_same m b v
  · next h => exact Memory.lookup_write_other m v h

/-! ### The canonical form -/

theorem Memory.wf_cons {c : Host.Cell} {m : List Host.Cell} :
    Memory.wf (c :: m) = true ↔ (∀ d ∈ m.head?, c.1 < d.1) ∧ Memory.wf m = true := by
  cases m <;> simp [Memory.wf]

theorem Memory.head_write {m : List Host.Cell} {a k : Nat} {v : Byte}
    (hm : ∀ d ∈ m.head?, k < d.1) (hk : k < a) : ∀ d ∈ (Memory.write m a v).head?, k < d.1 := by
  cases m with
  | nil => simpa [Memory.write] using hk
  | cons c rest =>
    obtain ⟨j, u⟩ := c
    unfold Memory.write
    split
    · simpa using hk
    · split
      · simpa using hk
      · simpa using hm

/-- A write keeps the canonical form. -/
theorem Memory.wf_write {m : List Host.Cell} (a : Nat) (v : Byte) (h : Memory.wf m = true) :
    Memory.wf (Memory.write m a v) = true := by
  induction m with
  | nil => rfl
  | cons c rest ih =>
    obtain ⟨k, u⟩ := c
    have hc := Memory.wf_cons.1 h
    unfold Memory.write
    split
    · next hak => exact Memory.wf_cons.2 ⟨by simpa using hak, h⟩
    · split
      · next _ hak => subst hak; exact Memory.wf_cons.2 hc
      · exact Memory.wf_cons.2 ⟨Memory.head_write hc.1 (by omega), ih hc.2⟩

theorem Memory.wf_writeHalf {m : List Host.Cell} (a : Nat) (v : Half) (h : Memory.wf m = true) :
    Memory.wf (Memory.writeHalf m a v) = true :=
  Memory.wf_write _ _ (Memory.wf_write _ _ h)

theorem Memory.lookup_writeHalf (m : List Host.Cell) (a b : Nat) (v : Half) :
    Memory.lookup (Memory.writeHalf m a v) b =
      if b = a + 1 then some (v.extractLsb' 8 8)
      else if b = a then some (v.setWidth 8) else Memory.lookup m b := by
  rw [Memory.writeHalf, Memory.lookup_write, Memory.lookup_write]

/-! ### Cells -/

theorem bufLen_pos (p : Params) : 0 < bufLen p :=
  Nat.two_pow_pos _

/-- With legal parameters `N` is even (R4). -/
theorem bufLen_even {p : Params} (h : p.valid = true) : bufLen p % 2 = 0 := by
  have hn : p.nLog2 ≠ 0 := by
    intro h0
    simp [Params.valid, h0] at h
  have hpos : p.nLog2.toNat ≠ 0 := fun h0 => hn (BitVec.eq_of_toNat_eq (by simpa using h0))
  obtain ⟨k, hk⟩ := Nat.exists_eq_succ_of_ne_zero hpos
  rw [bufLen, hk, Nat.pow_succ]
  omega

theorem two_le_bufLen {p : Params} (h : p.valid = true) : 2 ≤ bufLen p := by
  have h1 := bufLen_even h
  have h2 := bufLen_pos p
  omega

/-- Two different cells of the arenas lie apart: neither a byte of one nor its neighbour is a byte of the
other (R60). -/
theorem cellAddr_apart (p : Params) {x y : Buf} {i j : Nat} (hi : i < bufLen p) (hj : j < bufLen p)
    (h : ¬(x = y ∧ i = j)) :
    cellAddr p x i + 1 < cellAddr p y j ∨ cellAddr p y j + 1 < cellAddr p x i := by
  cases x <;> cases y <;> simp [cellAddr, bufBase] at h ⊢ <;> omega

theorem half_of_bytes (v : Half) : v.extractLsb' 8 8 ++ v.setWidth 8 = v := by
  apply BitVec.eq_of_getLsbD_eq
  intro i hi
  simp only [BitVec.getLsbD_append, BitVec.getLsbD_setWidth, BitVec.getLsbD_extractLsb']
  by_cases h : i < 8
  · simp [h]
  · have : i - 8 < 8 := by omega
    simp [h, this]
    congr 1
    omega

/-- What `BufWrite` can do. -/
theorem State.bufWrite?_eq_some {s t : State} {x : Buf} {i : Nat} {v : Half} :
    s.bufWrite? x i v = some t ↔
      i < bufLen s.params ∧
        { s with ctu.mem := Memory.writeHalf s.ctu.mem (cellAddr s.params x i) v } = t := by
  unfold State.bufWrite?
  split <;> simp_all

theorem State.bufWrite?_of_lt {s : State} {x : Buf} {i : Nat} (v : Half) (h : i < bufLen s.params) :
    s.bufWrite? x i v =
      some { s with ctu.mem := Memory.writeHalf s.ctu.mem (cellAddr s.params x i) v } :=
  State.bufWrite?_eq_some.2 ⟨h, rfl⟩

/-- What `BufRead` can do. -/
theorem State.bufRead?_eq_some {s : State} {x : Buf} {i : Nat} {w : Half} :
    s.bufRead? x i = some w ↔ i < bufLen s.params ∧ s.readCell x i = w := by
  unfold State.bufRead?
  split <;> simp_all

theorem State.bufRead?_of_lt {s : State} {x : Buf} {i : Nat} (h : i < bufLen s.params) :
    s.bufRead? x i = some (s.readCell x i) :=
  State.bufRead?_eq_some.2 ⟨h, rfl⟩

/-- A cell reads as it was last written. -/
theorem State.readCell_of_writeHalf {s t : State} {x : Buf} {i : Nat} {v : Half}
    (hm : t.ctu.mem = Memory.writeHalf s.ctu.mem (cellAddr s.params x i) v)
    (hp : t.params = s.params) : t.readCell x i = v := by
  simp [State.readCell, State.readByte, hm, hp, Memory.lookup_writeHalf, half_of_bytes]

/-- A byte outside the two that a cell's write stores reads as before. -/
theorem State.readByte_of_writeHalf {s t : State} {addr a : Nat} {v : Half}
    (hm : t.ctu.mem = Memory.writeHalf s.ctu.mem addr v) (he : t.ctu.bufEpoch = s.ctu.bufEpoch)
    (h1 : a ≠ addr) (h2 : a ≠ addr + 1) : t.readByte a = s.readByte a := by
  simp [State.readByte, hm, he, Memory.lookup_writeHalf, h1, h2]

/-- Every other cell reads as before (R60). -/
theorem State.readCell_of_writeHalf_other {s t : State} {x y : Buf} {i j : Nat} {v : Half}
    (hm : t.ctu.mem = Memory.writeHalf s.ctu.mem (cellAddr s.params x i) v)
    (he : t.ctu.bufEpoch = s.ctu.bufEpoch) (hp : t.params = s.params)
    (hi : i < bufLen s.params) (hj : j < bufLen s.params) (h : ¬(x = y ∧ i = j)) :
    t.readCell y j = s.readCell y j := by
  have := cellAddr_apart s.params hi hj h
  simp only [State.readCell, hp]
  rw [State.readByte_of_writeHalf hm he (by omega) (by omega),
    State.readByte_of_writeHalf hm he (by omega) (by omega)]

/-- A write to a cell makes it written. -/
theorem State.cellWritten_of_writeHalf {s t : State} {x : Buf} {i : Nat} {v : Half}
    (hm : t.ctu.mem = Memory.writeHalf s.ctu.mem (cellAddr s.params x i) v)
    (hp : t.params = s.params) : t.cellWritten x i = true := by
  simp [State.cellWritten, hm, hp, Memory.lookup_writeHalf]

/-- A write leaves no cell unwritten that was written. -/
theorem State.cellWritten_mono {s t : State} {addr : Nat} {v : Half}
    (hm : t.ctu.mem = Memory.writeHalf s.ctu.mem addr v) (hp : t.params = s.params) {y : Buf} {j : Nat}
    (h : s.cellWritten y j = true) : t.cellWritten y j = true := by
  simp only [State.cellWritten, Bool.and_eq_true] at h ⊢
  rw [hm, hp, Memory.lookup_writeHalf, Memory.lookup_writeHalf]
  constructor
  · split
    · rfl
    · split
      · rfl
      · exact h.1
  · split
    · rfl
    · split
      · rfl
      · exact h.2

/-- A cell other than the one a write stores to is written after it if and only if it was before. -/
theorem State.cellWritten_of_writeHalf_other {s t : State} {x y : Buf} {i j : Nat} {v : Half}
    (hm : t.ctu.mem = Memory.writeHalf s.ctu.mem (cellAddr s.params x i) v) (hp : t.params = s.params)
    (hi : i < bufLen s.params) (hj : j < bufLen s.params) (h : ¬(x = y ∧ i = j)) :
    t.cellWritten y j = s.cellWritten y j := by
  have := cellAddr_apart s.params hi hj h
  simp only [State.cellWritten, hp, hm, Memory.lookup_writeHalf]
  rw [if_neg (by omega), if_neg (by omega), if_neg (by omega), if_neg (by omega)]

end Sys2Proof.Machine
end

