-- ==== Sys2Proof/Machine/Trace.lean ====
section
/-!
DEFINITION. The trace lines and pseudo-instructions of R109 and R110, as the lines they stand for.
-/

namespace Sys2Proof.Machine

/-- `CONVS v0, ..., vk` (R110). -/
def Trace.convs (vs : List (BitVec 12)) : List TraceLine :=
  vs.map fun v => .agent (.conv v)

/-- `DELIVER` (R109). -/
def Trace.deliver : TraceLine :=
  .agent (.link .deliver 0)

/-- `XFER` (R110). -/
def Trace.xfer : List TraceLine :=
  [.agent .uart, Trace.deliver]

/-- `TXB` (R110). -/
def Trace.txb : List TraceLine :=
  .agent .tx :: Trace.xfer

/-- `SENDPKT` for buffers of length `n` (R110). -/
def Trace.sendPkt (n : Nat) : List TraceLine :=
  .agent .tx :: (List.replicate (2 * n + 2) Trace.txb).flatten

/-- `FEED b0, b1, ...` (R110). -/
def Trace.feed (bs : List Byte) : List TraceLine :=
  bs.map fun b => .agent (.link .insert b)

/-- `RD U.off` (R109). -/
def Trace.rd (unit : BusUnit) (off : Byte) : TraceLine :=
  .row .bus (busWord 2 unit false off) 0

/-- `WR U.off, d` (R109). -/
def Trace.wr (unit : BusUnit) (off : Byte) (d : Reg) : TraceLine :=
  .row .bus (busWord 2 unit true off) d

/-- `RESET CTU`, `RESET RDU` (R109). -/
def Trace.reset : BusUnit → TraceLine
  | .ctu => .row .rst 0 0
  | .rdu => .row .rst 1 0

/-- `START d` (R110). -/
def Trace.start (d : Reg) : List TraceLine :=
  [Trace.wr .ctu 0x08 d, Trace.wr .ctu 0x00 1]

/-- The lines run one after another; the first fault or refusal ends the run. -/
def State.runLines (s : State) : List TraceLine → Outcome
  | [] => .next s
  | line :: rest =>
    match s.runLine line with
    | .next t => State.runLines t rest
    | .fault f => .fault f
    | .refused r => .refused r

/-- At most `fuel` lines of `RXALL`: `SINK` where the output register is full, else `RX`, until no `RX` row is
enabled. -/
def State.rxAllWithin : Nat → State → Outcome
  | 0, s => .next s
  | fuel + 1, s =>
    if s.rdu.outValid then
      match s.runLine (.agent .sink) with
      | .next t => State.rxAllWithin fuel t
      | .fault f => .fault f
      | .refused r => .refused r
    else
      match s.runLine (.agent .rx) with
      | .next t => State.rxAllWithin fuel t
      | .fault f => .fault f
      | .refused _ => .next s

/-- `RXALL` (R110): `RX` until no `RX` row is enabled; where the output register is full, `SINK` and then on.
Each `RX` takes one event of `RXQ` and fills the output register at most once, so the bound is never what
ends it: `State.rxAll_eq_next`. -/
def State.rxAll (s : State) : Outcome :=
  State.rxAllWithin (2 * s.rdu.rxq.length + 2) s

end Sys2Proof.Machine
end

