-- ==== Sys2Proof/Laws/Ops.lean ====
section
/-!
SUPPORT. What each shared operation can do, said once: the guards, the receiver's step discipline, a capture
step's common part, the responses, and a step of the block.
-/

namespace Sys2Proof.Machine

/-! ### Guards -/

theorem onlyWhen_eq_next {g : Prop} [Decidable g] {o : Outcome} {t : State} :
    onlyWhen g o = .next t ↔ g ∧ o = .next t := by
  unfold onlyWhen
  split <;> simp_all

theorem onlyWhen_of {g : Prop} [Decidable g] {o : Outcome} (h : g) : onlyWhen g o = o :=
  if_pos h

theorem onlyWhen_of_not {g : Prop} [Decidable g] {o : Outcome} (h : ¬g) :
    onlyWhen g o = .refused .notEnabled :=
  if_neg h

theorem whenSending_eq_next {st : TxSt} {s t : State} {o : Outcome} :
    whenSending st s o = .next t ↔ (s.ctu.txSt = st ∧ s.uqFull = false) ∧ o = .next t :=
  onlyWhen_eq_next

theorem onByte_eq_next {s t : State} {k : Byte → Outcome} :
    onByte s k = .next t ↔
      ∃ b rest, s.rdu.outValid = false ∧ s.rdu.rxq = .byte b :: rest ∧ k b = .next t := by
  unfold onByte
  split
  · next b rest ho hq => simp [ho, hq]
  · next h =>
    constructor
    · intro h'; cases h'
    · rintro ⟨b, rest, ho, hq, -⟩
      exact absurd hq (h b rest ho)

theorem onByte_of {s : State} {k : Byte → Outcome} {b : Byte} {rest : List RxEvent}
    (ho : s.rdu.outValid = false) (hq : s.rdu.rxq = .byte b :: rest) : onByte s k = k b := by
  simp [onByte, ho, hq]

theorem onErr_eq_next {s t : State} {o : Outcome} :
    onErr s o = .next t ↔
      ∃ rest, s.rdu.outValid = false ∧ s.rdu.rxq = .err :: rest ∧ o = .next t := by
  unfold onErr
  split
  · next rest ho hq => simp [ho, hq]
  · next h =>
    constructor
    · intro h'; cases h'
    · rintro ⟨rest, ho, hq, -⟩
      exact absurd hq (h rest ho)

theorem onErr_of {s : State} {o : Outcome} {rest : List RxEvent}
    (ho : s.rdu.outValid = false) (hq : s.rdu.rxq = .err :: rest) : onErr s o = o := by
  simp [onErr, ho, hq]

theorem onPair_eq_next {s t : State} {k : Byte → Outcome} :
    onPair s k = .next t ↔
      ∃ b rest, s.rdu.outValid = false ∧ s.rdu.rxq = .byte b :: rest ∧
        (s.rdu.sst = .synced ∧ s.rdu.haveLo = true) ∧ k b = .next t := by
  simp only [onPair, onByte_eq_next, onlyWhen_eq_next]

theorem syncByteStep_eq_next {st st' : SyncSt} {p : Byte → Bool} {s t : State} :
    syncByteStep st p st' s = .next t ↔
      ∃ b rest, s.rdu.outValid = false ∧ s.rdu.rxq = .byte b :: rest ∧
        (s.rdu.sst = st ∧ p b = true) ∧
        { s.takeEvent.countSyncByte with rdu.sst := st' } = t := by
  simp only [syncByteStep, onByte_eq_next, onlyWhen_eq_next, Host.Outcome.next.injEq]

/-! ### Capture -/

/-- What the common part of a capture step can do. -/
theorem State.captureSample?_eq_some {s t : State} {v : BitVec 12} :
    s.captureSample? v = some t ↔
      s.ctu.idx < bufLen s.params ∧
        { s with
          ctu.mem := Memory.writeHalf s.ctu.mem (cellAddr s.params s.ctu.act s.ctu.idx) (sampleWord v)
          ctu.rrCh := otherChannel s.ctu.rrCh } = t := by
  unfold State.captureSample? State.bufWrite?
  split <;> simp_all

theorem State.captureSample?_of_lt {s : State} (v : BitVec 12) (h : s.ctu.idx < bufLen s.params) :
    s.captureSample? v =
      some { s with
        ctu.mem := Memory.writeHalf s.ctu.mem (cellAddr s.params s.ctu.act s.ctu.idx) (sampleWord v)
        ctu.rrCh := otherChannel s.ctu.rrCh } :=
  State.captureSample?_eq_some.2 ⟨h, rfl⟩

theorem State.capLast_eq_true {s : State} : s.capLast = true ↔ s.ctu.idx = bufLen s.params - 1 := by
  simp [State.capLast]

theorem State.capLast_eq_false {s : State} : s.capLast = false ↔ s.ctu.idx ≠ bufLen s.params - 1 := by
  simp [State.capLast]

theorem State.txLast_eq_true {s : State} : s.txLast = true ↔ s.ctu.txI = bufLen s.params - 1 := by
  simp [State.txLast]

theorem State.txLast_eq_false {s : State} : s.txLast = false ↔ s.ctu.txI ≠ bufLen s.params - 1 := by
  simp [State.txLast]

theorem State.uqFull_eq_false {s : State} : s.uqFull = false ↔ s.ctu.uq.length < s.params.uartDepth := by
  simp [State.uqFull]

/-- A converted value is below 4096 as a sample word (R5, R90). -/
theorem sampleWord_lt (v : BitVec 12) : sampleWord v < 4096 := by
  simp only [BitVec.lt_def, sampleWord, BitVec.toNat_setWidth]
  have := v.isLt
  simp
  omega

/-! ### Bus -/

theorem readCtu_eq (s : State) (r : Reg) : readCtu s r = .next { s with ctuBus := .okRead r } := rfl
theorem readRdu_eq (s : State) (r : Reg) : readRdu s r = .next { s with rduBus := .okRead r } := rfl
theorem wroteCtu_eq (s : State) : wroteCtu s = .next { s with ctuBus := .okWrite } := rfl
theorem wroteRdu_eq (s : State) : wroteRdu s = .next { s with rduBus := .okWrite } := rfl

theorem busError_eq (s : State) (u : BusUnit) : busError s u = .next (s.respond u .busErr) := rfl

/-! ### A step of the block -/

/-- A line that leads to a next state is an instruction that does. -/
theorem State.runLine_eq_next {s t : State} {line : TraceLine} :
    s.runLine line = .next t ↔ ∃ i, decodeRequest (fetchLine line s) = .ok i ∧ exec i s = .next t := by
  unfold State.runLine
  split
  · next i h => simp [h]
  · next e h => simp [h]

/-- What a step can do: run the next line of the trace, run the scheduler's free choice, or pass one over. -/
theorem step_eq_next {s t : State} (h : step s = .next t) :
    (∃ line rest, s.trace = line :: rest ∧ State.runLine { s with trace := rest } line = .next t) ∨
    (s.trace = [] ∧
      State.runLine { s with tick := s.tick + 1 } (Config.schedule s.tick) = .next t) ∨
    (s.trace = [] ∧ t = { s with tick := s.tick + 1 }) := by
  unfold step State.advance at h
  split at h
  · next line rest htr => exact .inl ⟨line, rest, htr, h⟩
  · next htr =>
    split at h
    · next u hu => exact .inr (.inl ⟨htr, hu.trans h⟩)
    · cases h
    · exact .inr (.inr ⟨htr, (Host.Outcome.next.inj h).symm⟩)

theorem State.runLines_cons_next {s t : State} {line : TraceLine} (rest : List TraceLine)
    (h : s.runLine line = .next t) : s.runLines (line :: rest) = t.runLines rest := by
  simp [State.runLines, h]

theorem State.runLines_append {s t : State} {l l' : List TraceLine} (h : s.runLines l = .next t) :
    s.runLines (l ++ l') = t.runLines l' := by
  induction l generalizing s with
  | nil => simp only [State.runLines, Host.Outcome.next.injEq] at h; simp [h]
  | cons line rest ih =>
    simp only [List.cons_append, State.runLines] at h ⊢
    split at h
    · next u hu => simp only [ih h]
    · cases h
    · cases h

/-! ### The receiver, and RXALL -/

/-- A row that is found is one of the list. -/
theorem firstMatch_eq_some {rows : List Row} {w : DispatchBits} {d : Reg} {i : Instr}
    (h : firstMatch rows w d = some i) : ∃ r ∈ rows, w &&& r.mask = r.pat ∧ r.build w d = i := by
  induction rows with
  | nil => cases h
  | cons r rest ih =>
    unfold firstMatch at h
    split at h
    · next hm => exact ⟨r, by simp, hm, Option.some.inj h⟩
    · obtain ⟨q, hq, hw⟩ := ih h
      exact ⟨q, by simp [hq], hw⟩

/-- What the decoder answers is the first row of the format that matches, on a word it does not refuse. -/
theorem decode_eq_ok {f : Format} {w : DispatchBits} {d : Reg} {i : Instr} :
    decode f w d = .ok i ↔
      w >>> formatWidth f = 0 ∧ isReservedWord f w = false ∧ firstMatch (formatRows f) w d = some i := by
  unfold decode
  split
  · simp_all
  · split
    · simp_all
    · split <;> simp_all

/-- From a word of format `rx` the decoder reads a receiver row only. -/
theorem decode_rx_fmt {w : DispatchBits} {d : Reg} {i : Instr} (h : decode .rx w d = .ok i) :
    (encode i).fmt = .rx := by
  obtain ⟨r, hr, -, rfl⟩ := firstMatch_eq_some (decode_eq_ok.1 h).2.2
  simp only [formatRows, rxRows, List.mem_cons, List.not_mem_nil, or_false] at hr
  rcases hr with rfl | rfl | rfl | rfl | rfl | rfl | rfl | rfl | rfl | rfl | rfl <;> rfl

/-- What every receiver step does: the output register was empty, and one event is taken off `RXQ` (R185). -/
theorem exec_rx_next {i : Instr} {s t : State} (hi : (encode i).fmt = .rx) (h : exec i s = .next t) :
    s.rdu.outValid = false ∧ ∃ e, s.rdu.rxq = e :: t.rdu.rxq := by
  cases i <;> first
    | (simp only [exec, execSyncHuntFf, execSyncHuntOther, execSyncResume, syncByteStep_eq_next, execSyncLock,
         execSyncErrEvent, execDecFirst, execDecErrEmpty, execDecBoundary, execDecLeft, execDecRight,
         execDecErrShort, onByte_eq_next, onErr_eq_next, onPair_eq_next, onlyWhen_eq_next,
         Host.Outcome.next.injEq] at h
       first
         | (obtain ⟨b, rest, ho, hq, -, rfl⟩ := h
            exact ⟨ho, .byte b, by simp [hq, State.takeEvent, State.countSyncByte]⟩)
         | (obtain ⟨b, rest, ho, hq, -, -, rfl⟩ := h
            exact ⟨ho, .byte b, by simp [hq, State.takeEvent]⟩)
         | (obtain ⟨rest, ho, hq, -, rfl⟩ := h
            exact ⟨ho, .err, by simp [hq, State.takeEvent, State.raise]⟩))
    | simp [encode] at hi

/-- A sink line takes the waiting frame. -/
theorem runLine_sink {s : State} (h : s.rdu.outValid = true) :
    s.runLine (.agent .sink) = .next { s with
      pcmOut := s.pcmOut ++ frameBytes s.rdu.outL s.rdu.outR, rdu.outValid := false } := by
  refine State.runLine_eq_next.2 ⟨.sinkAccept, ?_, onlyWhen_of h⟩
  simp only [fetchLine, choiceRequest, sinkWord, h]
  decide

/-- The lines `RXALL` may still take: two for each waiting event, one for a frame in the output register. -/
theorem State.rxAllWithin_eq_next {fuel : Nat} {s t : State}
    (hf : 2 * s.rdu.rxq.length + s.rdu.outValid.toNat < fuel) (h : State.rxAllWithin fuel s = .next t) :
    t.rdu.outValid = false ∧ ∀ u, t.runLine (.agent .rx) ≠ .next u := by
  induction fuel generalizing s with
  | zero => omega
  | succ n ih =>
    unfold State.rxAllWithin at h
    split at h
    · next ho =>
      rw [runLine_sink ho] at h
      exact ih (by simp only [ho, Bool.toNat_true, Bool.toNat_false] at hf ⊢; omega) h
    · next ho =>
      split at h
      · next u hu =>
        obtain ⟨i, hd, hi⟩ := State.runLine_eq_next.1 hu
        obtain ⟨-, e, he⟩ := exec_rx_next (decode_rx_fmt hd) hi
        have := Bool.toNat_le u.rdu.outValid
        exact ih (by simp only [he, List.length_cons] at hf; omega) h
      · cases h
      · next hr =>
        cases h
        exact ⟨by simpa using ho, fun u hu => by simp [hr] at hu⟩

/-- `RXALL` ends only where no `RX` row is enabled and no frame waits for the sink (R110). -/
theorem State.rxAll_eq_next {s t : State} (h : s.rxAll = .next t) :
    t.rdu.outValid = false ∧ ∀ u, t.runLine (.agent .rx) ≠ .next u :=
  State.rxAllWithin_eq_next (by have := Bool.toNat_le s.rdu.outValid; omega) h

end Sys2Proof.Machine
end

