-- ==== Sys2Proof/Machine/BusMap.lean ====
section
/-!
DEFINITION. How a platform's addresses reach the register windows (R64, R66, R70). The bases are the platform's
parameters and no step reads them: a bus operation word holds the offset alone (R103; log entry 17).
-/

namespace Sys2Proof.Machine

/-- A legal window base: a multiple of 256 (R70). -/
def legalBase (base : Nat) : Bool :=
  base % 256 == 0

/-- The offset of a system address in the window at `base` (R64); none outside the 256 bytes. -/
def windowOffset (base addr : Nat) : Option Byte :=
  if base ≤ addr ∧ addr < base + 256 then some (BitVec.ofNat 8 (addr - base)) else none

/-- The byte at byte offset `off + k` of a register at `off`: bits `[8k+7:8k]`, little-endian (R66). -/
def registerByte (r : Reg) (k : Fin 4) : Byte :=
  r.extractLsb' (8 * k) 8

end Sys2Proof.Machine
end

