-- ==== Sys2Proof/Safety.lean ====
section
/-!
DEFINITION. The terms in which claims speak of good states and runs: the invariants of R46 and of the
capture side, reachability, enabled steps, fair runs (R85, R124, R167, R215), and the byte pipeline
from the CTU to the RDU.
-/

namespace Sys2Proof.Machine

/-! ## Invariants -/

/-- The six invariants of R46, (a) to (f), of a block with legal parameters. -/
structure State.WellBehaved (s : State) : Prop where
  params : s.params.valid = true
  indices : s.ctu.idx < bufLen s.params ∧ s.ctu.txI < bufLen s.params
  running : s.ctu.run = true → s.ctu.cfgErr = false ∧ s.ctu.clkdiv ≠ 0
  sending : s.ctu.txSt ≠ .idle → s.ctu.ready.get s.ctu.txBuf = true
  hunting : s.rdu.sst ≠ .synced →
    s.rdu.haveLo = false ∧ s.rdu.outValid = false ∧ s.rdu.frameCnt = 0 ∧ s.rdu.boundaryCnt = 0 ∧
      s.rdu.rdErrCnt = 0
  queue : s.ctu.uq.length ≤ s.params.uartDepth
  stopped : s.ctu.run = false →
    s.ctu.ready = ⟨false, false⟩ ∧ s.ctu.cnt = ⟨0, 0⟩ ∧ s.ctu.intr = ⟨false, false⟩ ∧
      s.ctu.txSt = .idle

/-- No cell that a rule may read is unwritten (R27), and every written cell holds a 12-bit value (R5, R90,
R285): the memory is canonical, a ready buffer is written whole, and so is the buffer being filled below
`IDX`. -/
structure State.BuffersSound (s : State) : Prop where
  canonical : Memory.wf s.ctu.mem = true
  readyWritten : ∀ x i, s.ctu.ready.get x = true → i < bufLen s.params → s.cellWritten x i = true
  fillWritten : ∀ i, i < s.ctu.idx → s.cellWritten s.ctu.act i = true
  samples : ∀ x i, i < bufLen s.params → s.cellWritten x i = true → s.readCell x i < 4096

/-- The interleave and the alternation of fills (R123, R136, R137): cell `i` is channel `i mod 2`, and the
counters differ by the fill of A that B's has not matched yet. -/
structure State.RoundRobin (s : State) : Prop where
  channel : s.ctu.rrCh = if s.ctu.idx % 2 = 0 then .ch0 else .ch1
  fills : s.ctu.cnt.a = s.ctu.cnt.b + (match s.ctu.act with | .a => 0 | .b => 1)

/-! ## Runs -/

/-- `t` is a state that some sequence of trace lines leads to from `s`. -/
def State.leadsTo (s t : State) : Prop :=
  ∃ lines : List TraceLine, s.runLines lines = .next t

/-- `s` is reachable from power-on of a block with legal parameters, whatever the agents' order and
draws. -/
def State.reachable (s : State) : Prop :=
  ∃ p : Params, p.valid = true ∧ (State.powerOn p).leadsTo s

/-- The step of instruction `i` is enabled in `s`. -/
def State.enabled (s : State) (i : Instr) : Prop :=
  ∃ t, exec i s = .next t

/-- An execution without end: one line a step, none refused. -/
structure BlockRun where
  state : Nat → State
  line : Nat → TraceLine
  follows : ∀ n, (state n).runLine (line n) = .next (state (n + 1))

/-- The `n`-th step of the run is that of instruction `i`, whichever form of line names it: the generic form
or the row's own word (R109). -/
def BlockRun.takes (r : BlockRun) (n : Nat) (i : Instr) : Prop :=
  decodeRequest (fetchLine (r.line n) (r.state n)) = .ok i

/-- A step that stays enabled is taken: if from some point on some instruction in `is` is always enabled, one
in `is` is taken again and again. -/
def BlockRun.fairFor (r : BlockRun) (is : Instr → Prop) : Prop :=
  (∃ n, ∀ m, n ≤ m → ∃ i, is i ∧ (r.state m).enabled i) → ∀ n, ∃ m, n ≤ m ∧ ∃ i, is i ∧ r.takes m i

/-- The fairness the spec assumes: capture steps, whatever their draw (R124), delivery on the link (R85), and
each step of the transmitter and the UART (R167), of the receiver and the sink (R215). The link's other
steps are never forced (R85; log entry 14). -/
def BlockRun.fair (r : BlockRun) : Prop :=
  r.fairFor (fun i => (encode i).fmt = .cap) ∧ r.fairFor (· = .linkDeliver) ∧
    ∀ i, (encode i).fmt ∈ [Format.tx, .uart, .rx, .sink] → r.fairFor (· = i)

/-! ## The byte pipeline -/

/-- The events the RDU will receive if nothing is lost or added, oldest first: what waits in `RXQ`, then the
bytes of `WIRE`, then those of `UQ` (R80, R84, R165). -/
def State.inFlight (s : State) : List RxEvent :=
  s.rdu.rxq ++ (s.wire ++ s.ctu.uq).map .byte

/-- The receiver takes its one step on the head of `RXQ` `n` times (R185). -/
def State.receive (s : State) (n : Nat) : Outcome :=
  s.runLines (List.replicate n (.agent .rx))

/-- The transmitter and the UART take turns: the transmitter's step, then the byte it pushed goes on the wire,
`n` times. -/
def State.sendBytes (s : State) (n : Nat) : Outcome :=
  s.runLines (List.replicate n [TraceLine.agent .tx, .agent .uart]).flatten

end Sys2Proof.Machine
end

