-- ==== Sys2Proof/Certificates/Slice0/Obligations.lean ====
section
/-!
DEFINITION. The statements for the provers. Each gives, in its docstring, the rule of spec/ it formalises.
A statement whose conclusion is an equation `exec i s = .next { s with ... }` is the frame too: every
register, flag, queue and byte of the arenas that the record does not name is as it was.
-/

open Sys2Proof Sys2Proof.Machine

/-! ## Capture -/

/-- R130: a conversion that does not end a fill writes `zext_16(v)` to `BUF[ACT][IDX]` and no other byte,
moves to the other channel and to the next index, and changes nothing else. -/
def Obligations.ConvStoresOneSample : Prop :=
  ∀ (v : BitVec 12) (s : State), s.ctu.run = true → s.ctu.idx < bufLen s.params →
    s.ctu.idx ≠ bufLen s.params - 1 →
    ∃ t, exec (.conv v) s = .next t ∧
      t.readCell s.ctu.act s.ctu.idx = v.setWidth 16 ∧
      (∀ a, a ≠ cellAddr s.params s.ctu.act s.ctu.idx → a ≠ cellAddr s.params s.ctu.act s.ctu.idx + 1 →
        t.readByte a = s.readByte a) ∧
      t = { s with
        ctu.mem := t.ctu.mem
        ctu.rrCh := if s.ctu.rrCh = .ch0 then .ch1 else .ch0
        ctu.idx := s.ctu.idx + 1 }

/-- R133: the conversion that ends a fill writes the last cell, and in the same step sets the buffer's flag
and interrupt bit, counts the completion modulo 2^32, and turns to cell 0 of the other buffer. -/
def Obligations.ConvCompleteFiresCompletion : Prop :=
  ∀ (v : BitVec 12) (s : State), s.ctu.run = true → s.ctu.idx = bufLen s.params - 1 →
    ∃ t, exec (.convComplete v) s = .next t ∧
      t.readCell s.ctu.act (bufLen s.params - 1) = v.setWidth 16 ∧
      (∀ a, a ≠ cellAddr s.params s.ctu.act s.ctu.idx → a ≠ cellAddr s.params s.ctu.act s.ctu.idx + 1 →
        t.readByte a = s.readByte a) ∧
      t.ctu.ready.get s.ctu.act = true ∧
      t.ctu.ready.get (otherBuf s.ctu.act) = s.ctu.ready.get (otherBuf s.ctu.act) ∧
      t.ctu.cnt.get s.ctu.act = s.ctu.cnt.get s.ctu.act + 1 ∧
      t.ctu.cnt.get (otherBuf s.ctu.act) = s.ctu.cnt.get (otherBuf s.ctu.act) ∧
      t.ctu.intr.get s.ctu.act = true ∧
      t.ctu.intr.get (otherBuf s.ctu.act) = s.ctu.intr.get (otherBuf s.ctu.act) ∧
      t = { s with
        ctu.mem := t.ctu.mem, ctu.ready := t.ctu.ready, ctu.cnt := t.ctu.cnt, ctu.intr := t.ctu.intr
        ctu.rrCh := if s.ctu.rrCh = .ch0 then .ch1 else .ch0
        ctu.act := if s.ctu.act = .a then .b else .a
        ctu.idx := 0 }

/-- R131: the conversion after a completion is written to cell 0 of the other buffer, and every cell of the
completed buffer still reads as the completion left it. -/
def Obligations.CompletionArmsOtherBuffer : Prop :=
  ∀ (v w : BitVec 12) (s t : State), s.params.valid = true → exec (.convComplete v) s = .next t →
    ∃ u, exec (.conv w) t = .next u ∧ u.readCell (otherBuf s.ctu.act) 0 = w.setWidth 16 ∧
      ∀ i, i < bufLen s.params → u.readCell s.ctu.act i = t.readCell s.ctu.act i

/-- R138: while `RUN = 1` exactly one of the two capture rows runs, whatever else the state holds; while
`RUN = 0` neither does. -/
def Obligations.CaptureNeverStalls : Prop :=
  ∀ (v : BitVec 12) (s : State), s.ctu.idx < bufLen s.params →
    (s.ctu.run = true →
      (∃ t, s.runLine (.agent (.conv v)) = .next t) ∧
      ((∃ t, exec (.conv v) s = .next t) ↔ ¬∃ t, exec (.convComplete v) s = .next t)) ∧
    (s.ctu.run = false →
      s.runLine (.agent (.conv v)) = .refused (.badWord .noRow) ∧
      (∀ t, exec (.conv v) s ≠ .next t) ∧ (∀ t, exec (.convComplete v) s ≠ .next t))

/-! ## Transmitter, encode function, UART -/

/-- R150, R151: the idle transmitter picks A if it is ready, else B if that is, clearing no flag and sending
no byte; with neither ready it changes nothing. `UQ` may be full. -/
def Obligations.TxSelectsAThenB : Prop :=
  ∀ s : State, s.ctu.txSt = .idle →
    (s.ctu.ready.a = true →
      exec .txSelectA s = .next { s with ctu.txBuf := .a, ctu.txI := 0, ctu.txSt := .dataLo }) ∧
    (s.ctu.ready.a = false → s.ctu.ready.b = true →
      exec .txSelectB s = .next { s with ctu.txBuf := .b, ctu.txI := 0, ctu.txSt := .dataLo }) ∧
    (s.ctu.ready.a = false → s.ctu.ready.b = false → exec .txPollNone s = .next s)

/-- R152: TX_LO reads cell `TX_I` of `TX_BUF`, latches its encoding, and pushes the low byte. -/
def Obligations.TxLoSendsEncodedLowByte : Prop :=
  ∀ s : State, s.ctu.txSt = .dataLo → s.ctu.uq.length < s.params.uartDepth →
    s.ctu.txI < bufLen s.params →
    ∃ e : Half,
      e = (if s.readCell s.ctu.txBuf s.ctu.txI = 0xFFFF then s.params.sentinel
        else s.readCell s.ctu.txBuf s.ctu.txI) ∧
      exec .txLo s = .next { s with
        ctu.uq := s.ctu.uq ++ [e.setWidth 8], ctu.txWord := e, ctu.txSt := .dataHi }

/-- R153, R154: the high byte comes from `TX_WORD`; before the last index the next sample follows, at the
last index the terminator. -/
def Obligations.TxHiSendsLatchedHighByte : Prop :=
  ∀ s : State, s.ctu.txSt = .dataHi → s.ctu.uq.length < s.params.uartDepth →
    (s.ctu.txI ≠ bufLen s.params - 1 →
      exec .txHi s = .next { s with
        ctu.uq := s.ctu.uq ++ [s.ctu.txWord.extractLsb' 8 8]
        ctu.txI := s.ctu.txI + 1
        ctu.txSt := .dataLo }) ∧
    (s.ctu.txI = bufLen s.params - 1 →
      exec .txHiLast s = .next { s with
        ctu.uq := s.ctu.uq ++ [s.ctu.txWord.extractLsb' 8 8], ctu.txSt := .term0 })

/-- R155, R156: each terminator step pushes `0xFF`; the second clears the flag of the buffer sent, and no
other, and goes idle. -/
def Obligations.TxTerminatorClearsReady : Prop :=
  ∀ s : State, s.ctu.uq.length < s.params.uartDepth →
    (s.ctu.txSt = .term0 →
      exec .txTerm0 s = .next { s with ctu.uq := s.ctu.uq ++ [0xFF], ctu.txSt := .term1 }) ∧
    (s.ctu.txSt = .term1 →
      ∃ t, exec .txTerm1 s = .next t ∧
        t.ctu.ready.get s.ctu.txBuf = false ∧
        t.ctu.ready.get (otherBuf s.ctu.txBuf) = s.ctu.ready.get (otherBuf s.ctu.txBuf) ∧
        t = { s with
          ctu.uq := s.ctu.uq ++ [0xFF], ctu.ready := t.ctu.ready, ctu.txSt := .idle })

/-- R91 for the two rows of `enc` taken as steps of the model (log entry 10): the function gives `SENTINEL`
for `0xFFFF` and any other word unchanged, and nothing of the block changes. -/
def Obligations.EncRowsGiveEnc : Prop :=
  ∀ s : State,
    exec .encSubst s = .next { s with encOut := s.params.sentinel } ∧
    ∀ w : Half, w ≠ 0xFFFF → exec (.encPass w) s = .next { s with encOut := w }

/-- R165, R80: the UART moves the head of `UQ` to the tail of `WIRE`, the link the head of `WIRE` to the tail
of `RXQ`, and neither changes which bytes reach the RDU or in which order. -/
def Obligations.UartAndLinkKeepOrder : Prop :=
  ∀ (s : State) (x : Byte) (rest : List Byte),
    (s.ctu.uq = x :: rest →
      ∃ t, exec .uartShift s = .next t ∧ t = { s with wire := s.wire ++ [x], ctu.uq := rest } ∧
        t.inFlight = s.inFlight) ∧
    (s.wire = x :: rest →
      ∃ t, exec .linkDeliver s = .next t ∧
        t = { s with wire := rest, rdu.rxq := s.rdu.rxq ++ [.byte x] } ∧ t.inFlight = s.inFlight)

/-! ## Link -/

/-- R81: a timeout puts one `Err` at the tail of `RXQ`, when the line is idle or the link is lossy. -/
def Obligations.LinkTimeoutPushesErr : Prop :=
  ∀ s : State,
    (s.wire = [] → exec .linkTimeout s = .next { s with rdu.rxq := s.rdu.rxq ++ [.err] }) ∧
    (s.params.linkLossy = true →
      exec .linkTimeoutLossy s = .next { s with rdu.rxq := s.rdu.rxq ++ [.err] }) ∧
    (s.wire ≠ [] → s.params.linkLossy = false →
      ∀ x, s.runLine (.agent (.link .timeout x)) = .refused (.badWord .noRow))

/-- R82: before the RDU's first input, with nothing waiting, the link may lose the next byte. -/
def Obligations.LinkSkipLosesHead : Prop :=
  ∀ (s : State) (x : Byte) (rest : List Byte),
    s.rdu.rxOpen = false → s.rdu.rxq = [] → s.wire = x :: rest →
    exec .linkSkip s = .next { s with wire := rest }

/-- R83: on a lossy link a byte may be dropped, replaced by the draw `c`, or made from it; on a link that is
not lossy none of the three is enabled. -/
def Obligations.LossyLinkDamages : Prop :=
  ∀ (s : State) (c : Byte),
    (s.params.linkLossy = true →
      exec (.linkInsert c) s = .next { s with rdu.rxq := s.rdu.rxq ++ [.byte c] } ∧
      ∀ x rest, s.wire = x :: rest →
        exec .linkDrop s = .next { s with wire := rest } ∧
        exec (.linkCorrupt c) s = .next { s with wire := c :: rest }) ∧
    (s.params.linkLossy = false →
      exec (.linkInsert c) s = .refused .notEnabled ∧ exec .linkDrop s = .refused .notEnabled ∧
      exec (.linkCorrupt c) s = .refused .notEnabled)

/-! ## Synchronizer -/

/-- R180, R181, R183: the three synchronizer steps on a byte that do not lock. Each consumes the byte, counts
it modulo 2^32 and marks the RDU open. -/
def Obligations.SyncHuntsForTerminator : Prop :=
  ∀ (s : State) (b : Byte) (rest : List RxEvent),
    s.rdu.outValid = false → s.rdu.rxq = .byte b :: rest →
    (s.rdu.sst = .hunt → b ≠ 0xFF →
      exec .syncHuntOther s = .next { s with
        rdu.rxq := rest, rdu.rxOpen := true, rdu.syncOffset := s.rdu.syncOffset + 1 }) ∧
    (s.rdu.sst = .hunt → b = 0xFF →
      exec .syncHuntFf s = .next { s with
        rdu.rxq := rest, rdu.rxOpen := true, rdu.syncOffset := s.rdu.syncOffset + 1
        rdu.sst := .sawFf }) ∧
    (s.rdu.sst = .sawFf → b ≠ 0xFF →
      exec .syncResume s = .next { s with
        rdu.rxq := rest, rdu.rxOpen := true, rdu.syncOffset := s.rdu.syncOffset + 1
        rdu.sst := .hunt })

/-- R182: a second consecutive `0xFF` locks, with `PHASE` left and no byte latched. -/
def Obligations.SyncLockExpectsLeft : Prop :=
  ∀ (s : State) (rest : List RxEvent),
    s.rdu.outValid = false → s.rdu.rxq = .byte 0xFF :: rest → s.rdu.sst = .sawFf →
    exec .syncLock s = .next { s with
      rdu.rxq := rest, rdu.rxOpen := true, rdu.syncOffset := s.rdu.syncOffset + 1
      rdu.sst := .synced, rdu.phase := .left, rdu.haveLo := false }

/-- R184: an `Err` before the lock cancels the candidate, is recorded and counted, and takes no byte
position. -/
def Obligations.SyncErrIsRecorded : Prop :=
  ∀ (s : State) (rest : List RxEvent),
    s.rdu.outValid = false → s.rdu.rxq = .err :: rest → (s.rdu.sst = .hunt ∨ s.rdu.sst = .sawFf) →
    exec .syncErrEvent s = .next { s with
      rdu.rxq := rest, rdu.rxOpen := true, rdu.sst := .hunt, rdu.syncErr := true
      rdu.syncErrCnt := s.rdu.syncErrCnt + 1 }

/-- R186: from RDU reset, on `Byte` events whose first two adjacent `0xFF` bytes are at `j` and `j + 1`, the
receiver is `SYNCED` after the step that consumes byte `j + 1`, and `SYNC_OFFSET` is `j + 2`, with `PHASE` left (R182). What follows is
left in `RXQ`. (`j + 2` is read modulo 2^32, R40.) -/
def Obligations.SynchronizerFindsFirstTerminator : Prop :=
  ∀ (s : State) (bs : List Byte) (more : List RxEvent) (j : Nat),
    s.rdu = { Rdu.atReset with rxq := bs.map .byte ++ more } →
    bs.length = j + 2 → bs[j]? = some 0xFF → bs[j + 1]? = some 0xFF →
    (∀ k, k < j → ¬(bs[k]? = some 0xFF ∧ bs[k + 1]? = some 0xFF)) →
    (∀ k, k < j + 2 → ∀ t, s.receive k = .next t → t.rdu.sst ≠ .synced) ∧
    ∃ t, s.receive (j + 2) = .next t ∧ t.rdu.sst = .synced ∧ t.rdu.phase = .left ∧
      t.rdu.syncOffset = BitVec.ofNat 32 (j + 2) ∧ t.rdu.rxq = more ∧
      t = { s with rdu := t.rdu }

/-! ## Frame decoder and sink -/

/-- R200: the first byte of a pair is latched, whatever it is. `RX_OPEN` is set as R185 says of every receiver
step; R200's list of state written leaves it out (log entry 19). -/
def Obligations.DecFirstLatchesByte : Prop :=
  ∀ (s : State) (b : Byte) (rest : List RxEvent),
    s.rdu.outValid = false → s.rdu.rxq = .byte b :: rest → s.rdu.sst = .synced →
    s.rdu.haveLo = false →
    exec .decFirst s = .next { s with
      rdu.rxq := rest, rdu.rxOpen := true, rdu.loByte := b, rdu.haveLo := true }

/-- R201: a pair `FF FF` is skipped and counted; `PHASE` and `LEFT_VAL` are as they were. `RX_OPEN` is set as
R185 says; R201's list of state written leaves it out (log entry 19). -/
def Obligations.DecBoundaryIsSkipped : Prop :=
  ∀ (s : State) (rest : List RxEvent),
    s.rdu.outValid = false → s.rdu.rxq = .byte 0xFF :: rest → s.rdu.sst = .synced →
    s.rdu.haveLo = true → s.rdu.loByte = 0xFF →
    exec .decBoundary s = .next { s with
      rdu.rxq := rest, rdu.rxOpen := true, rdu.haveLo := false
      rdu.boundaryCnt := s.rdu.boundaryCnt + 1 }

/-- R203, R204 with R202: a pair that is no boundary gives a left value, or a right value that completes a
frame. The sample's value is `(u - 2048) * 16` reduced modulo 2^16, for the little-endian `u`. `RX_OPEN` is set as
R185 says; the lists of R203 and R204 leave it out (log entry 19). -/
def Obligations.DecSampleAlternatesChannels : Prop :=
  ∀ (s : State) (b : Byte) (rest : List RxEvent),
    s.rdu.outValid = false → s.rdu.rxq = .byte b :: rest → s.rdu.sst = .synced →
    s.rdu.haveLo = true → ¬(s.rdu.loByte = 0xFF ∧ b = 0xFF) →
    ∃ x : Half,
      (x.toInt - ((256 * b.toNat + s.rdu.loByte.toNat : Nat) - 2048 : Int) * 16) % 65536 = 0 ∧
      (s.rdu.phase = .left →
        exec .decLeft s = .next { s with
          rdu.rxq := rest, rdu.rxOpen := true, rdu.leftVal := x, rdu.phase := .right
          rdu.haveLo := false }) ∧
      (s.rdu.phase = .right →
        exec .decRight s = .next { s with
          rdu.rxq := rest, rdu.rxOpen := true, rdu.outL := s.rdu.leftVal, rdu.outR := x
          rdu.outValid := true, rdu.phase := .left, rdu.haveLo := false
          rdu.frameCnt := s.rdu.frameCnt + 1 })

/-- R206, R207: an `Err` after the lock is recorded and counted, the phase stays, and a latched byte is
discarded. `RX_OPEN` is set as R185 says; the lists of R206 and R207 leave it out (log entry 19). -/
def Obligations.DecErrKeepsPhase : Prop :=
  ∀ (s : State) (rest : List RxEvent),
    s.rdu.outValid = false → s.rdu.rxq = .err :: rest → s.rdu.sst = .synced →
    (s.rdu.haveLo = false →
      exec .decErrEmpty s = .next { s with
        rdu.rxq := rest, rdu.rxOpen := true, rdu.rdErr := true, rdu.rdErrCnt := s.rdu.rdErrCnt + 1 }) ∧
    (s.rdu.haveLo = true →
      exec .decErrShort s = .next { s with
        rdu.rxq := rest, rdu.rxOpen := true, rdu.rdErr := true, rdu.rdErrCnt := s.rdu.rdErrCnt + 1
        rdu.haveLo := false })

/-- R211: `g` recovers every 12-bit value from the decoder's output, and the encode function leaves such a
value unchanged. -/
def Obligations.SampleRoundTripIsExact : Prop :=
  ∀ (p : Params) (x : Half), x < 4096 →
    encWord p x = x ∧ pairWord (lo8 x) (hi8 x) = x ∧ fromPcm (toPcm x) = (x.toNat : Int)

/-- R214: the sink takes the frame as four little-endian bytes, left first. -/
def Obligations.SinkAppendsFrame : Prop :=
  ∀ s : State, s.rdu.outValid = true →
    exec .sinkAccept s = .next { s with
      pcmOut := s.pcmOut ++ [s.rdu.outL.setWidth 8, s.rdu.outL.extractLsb' 8 8,
        s.rdu.outR.setWidth 8, s.rdu.outR.extractLsb' 8 8]
      rdu.outValid := false }

/-! ## Registers

The response of an access is read in `ctuBus` or `rduBus`, where the model keeps it (log entry 9). -/

/-- R231: the eight bits of `STATUS`, all of one state; bits 31..8 are zero and the read changes nothing. -/
def Obligations.StatusReadsOneSnapshot : Prop :=
  ∀ s : State, ∃ r : Reg, exec .rdCtuStatus s = .next { s with ctuBus := .okRead r } ∧
    (r.getLsbD 0 = s.ctu.ready.a) ∧ (r.getLsbD 1 = s.ctu.ready.b) ∧
    (r.getLsbD 2 = true ↔ s.ctu.act = .b) ∧ (r.getLsbD 3 = true ↔ s.ctu.rrCh = .ch1) ∧
    (r.getLsbD 4 = true ↔ s.ctu.txSt ≠ .idle) ∧ (r.getLsbD 5 = true ↔ s.ctu.txBuf = .b) ∧
    (r.getLsbD 6 = s.ctu.run) ∧ (r.getLsbD 7 = s.ctu.cfgErr) ∧ r.toNat < 256

/-- R230, R233, R235, R236, R243: the CTU's plain register reads, none of which changes anything. -/
def Obligations.CtuPlainReads : Prop :=
  ∀ s : State,
    exec .rdCtuCtrl s = .next { s with ctuBus := .okRead (if s.ctu.run then 1 else 0) } ∧
    exec .rdCtuClkdiv s = .next { s with ctuBus := .okRead (s.ctu.clkdiv.setWidth 32) } ∧
    exec .rdCtuCntA s = .next { s with ctuBus := .okRead (s.ctu.cnt.get .a) } ∧
    exec .rdCtuCntB s = .next { s with ctuBus := .okRead (s.ctu.cnt.get .b) } ∧
    exec .rdCtuConfig s =
      .next { s with ctuBus := .okRead (s.params.sentinel ++ s.params.nLog2.setWidth 16) }

/-- R239, R241, R242, R287: the interrupt registers, and the line as the OR of the bits of `INTS`. -/
def Obligations.InterruptRegistersRead : Prop :=
  ∀ s : State, ∃ r e m : Reg,
    exec .rdCtuIntr s = .next { s with ctuBus := .okRead r } ∧
    exec .rdCtuInte s = .next { s with ctuBus := .okRead e } ∧
    exec .rdCtuInts s = .next { s with ctuBus := .okRead m } ∧
    r.getLsbD 0 = s.ctu.intr.a ∧ r.getLsbD 1 = s.ctu.intr.b ∧ r.toNat < 4 ∧
    e.getLsbD 0 = s.ctu.inte.a ∧ e.getLsbD 1 = s.ctu.inte.b ∧ e.toNat < 4 ∧
    m = r &&& e ∧ (irq s = true ↔ m ≠ 0)

/-- R244: the fields of `RSTATUS`; bits 31..7 are zero and the read changes nothing. -/
def Obligations.RstatusReads : Prop :=
  ∀ s : State, ∃ r : Reg, exec .rdRduRstatus s = .next { s with rduBus := .okRead r } ∧
    (r.extractLsb' 0 2 = match s.rdu.sst with | .hunt => (0 : BitVec 2) | .sawFf => 1 | .synced => 2) ∧
    (r.getLsbD 2 = true ↔ s.rdu.phase = .right) ∧ (r.getLsbD 3 = s.rdu.haveLo) ∧
    (r.getLsbD 4 = s.rdu.outValid) ∧ (r.getLsbD 5 = s.rdu.syncErr) ∧ (r.getLsbD 6 = s.rdu.rdErr) ∧
    r.toNat < 128

/-- R245, R247, R248, R249, R251, R252, R253: the other RDU reads. -/
def Obligations.RduPlainReads : Prop :=
  ∀ s : State,
    exec .rdRduSyncOffset s = .next { s with rduBus := .okRead s.rdu.syncOffset } ∧
    exec .rdRduSyncErrCnt s = .next { s with rduBus := .okRead s.rdu.syncErrCnt } ∧
    exec .rdRduRdErrCnt s = .next { s with rduBus := .okRead s.rdu.rdErrCnt } ∧
    exec .rdRduBoundaryCnt s = .next { s with rduBus := .okRead s.rdu.boundaryCnt } ∧
    exec .rdRduFrameCnt s = .next { s with rduBus := .okRead s.rdu.frameCnt } ∧
    exec .rdRduOutFrame s = .next { s with rduBus := .okRead (s.rdu.outR ++ s.rdu.outL) } ∧
    exec .rdRduLeftHold s = .next { s with rduBus := .okRead (s.rdu.leftVal.setWidth 32) }

/-- R240, R254: a write to a read-only register answers `OK` and changes nothing. -/
def Obligations.ReadOnlyWritesIgnored : Prop :=
  ∀ (s : State) (d : Reg),
    (∀ i ∈ [Instr.wrCtuStatus d, .wrCtuCntA d, .wrCtuCntB d, .wrCtuInts d, .wrCtuConfig d],
      exec i s = .next { s with ctuBus := .okWrite }) ∧
    (∀ i ∈ [Instr.wrRduSyncOffset d, .wrRduSyncErrCnt d, .wrRduRdErrCnt d, .wrRduBoundaryCnt d,
        .wrRduFrameCnt d, .wrRduOutFrame d, .wrRduLeftHold d],
      exec i s = .next { s with rduBus := .okWrite })

/-- R250: a reserved offset reads as zero and ignores writes, in either unit. -/
def Obligations.ReservedOffsetsReadZero : Prop :=
  ∀ (s : State) (off : Byte) (d : Reg),
    exec (.rdReserved .ctu off) s = .next { s with ctuBus := .okRead 0 } ∧
    exec (.rdReserved .rdu off) s = .next { s with rduBus := .okRead 0 } ∧
    exec (.wrReserved .ctu off d) s = .next { s with ctuBus := .okWrite } ∧
    exec (.wrReserved .rdu off d) s = .next { s with rduBus := .okWrite }

/-- R255: a bus error answers `BUSERR` and changes nothing. -/
def Obligations.BusErrorsChangeNothing : Prop :=
  ∀ (s : State) (half we : Bool) (off : Byte),
    (∀ i ∈ [Instr.buserrSizeNarrow half .ctu we off, .buserrSizeNone .ctu we off,
        .buserrAlignOdd .ctu we off, .buserrAlignHalf .ctu we off],
      exec i s = .next { s with ctuBus := .busErr }) ∧
    (∀ i ∈ [Instr.buserrSizeNarrow half .rdu we off, .buserrSizeNone .rdu we off,
        .buserrAlignOdd .rdu we off, .buserrAlignHalf .rdu we off],
      exec i s = .next { s with rduBus := .busErr })

/-- R232: a start request starts capture, or with `CLKDIV = 0` records the fatal error; in every other case
the write changes nothing. The response is `OK` in each. -/
def Obligations.StartRequest : Prop :=
  ∀ (s : State) (d : Reg),
    (d.getLsbD 0 = true → s.ctu.run = false → s.ctu.cfgErr = false → s.ctu.clkdiv ≠ 0 →
      exec (.wrCtuCtrl d) s = .next { s with ctu.run := true, ctuBus := .okWrite }) ∧
    (d.getLsbD 0 = true → s.ctu.run = false → s.ctu.cfgErr = false → s.ctu.clkdiv = 0 →
      exec (.wrCtuCtrl d) s = .next { s with ctu.cfgErr := true, ctuBus := .okWrite }) ∧
    (d.getLsbD 0 = false ∨ s.ctu.run = true ∨ s.ctu.cfgErr = true →
      exec (.wrCtuCtrl d) s = .next { s with ctuBus := .okWrite })

/-- R234: `CLKDIV` takes bits 15..0 while the block is stopped and not misconfigured, and else keeps its
value. -/
def Obligations.ClkdivWrite : Prop :=
  ∀ (s : State) (d : Reg),
    (s.ctu.run = false → s.ctu.cfgErr = false →
      exec (.wrCtuClkdiv d) s =
        .next { s with ctu.clkdiv := d.extractLsb' 0 16, ctuBus := .okWrite }) ∧
    (s.ctu.run = true ∨ s.ctu.cfgErr = true →
      exec (.wrCtuClkdiv d) s = .next { s with ctuBus := .okWrite })

/-- R237, R238: writing 1 clears a pending bit and writing 0 keeps it; `INTE` is stored. -/
def Obligations.InterruptRegisterWrites : Prop :=
  ∀ (s : State) (d : Reg),
    exec (.wrCtuIntr d) s = .next { s with
      ctu.intr := ⟨if d.getLsbD 0 then false else s.ctu.intr.a, if d.getLsbD 1 then false else s.ctu.intr.b⟩
      ctuBus := .okWrite } ∧
    exec (.wrCtuInte d) s = .next { s with
      ctu.inte := ⟨d.getLsbD 0, d.getLsbD 1⟩, ctuBus := .okWrite }

/-- R246: writing 1 clears a sticky error bit; the read-only fields and the counters keep their values. -/
def Obligations.RstatusWriteOneClears : Prop :=
  ∀ (s : State) (d : Reg),
    exec (.wrRduRstatus d) s = .next { s with
      rdu.syncErr := if d.getLsbD 5 then false else s.rdu.syncErr
      rdu.rdErr := if d.getLsbD 6 then false else s.rdu.rdErr
      rduBus := .okWrite }

/-! ## Reset -/

/-- R300: a CTU reset, in any state, sets every CTU element and changes nothing else; no cell counts as
written after it (so each reads as a free value: log entry 4), and the interrupt line is low. -/
def Obligations.CtuResetValues : Prop :=
  ∀ s : State, ∃ t, exec .resetCtu s = .next t ∧
    (∀ x i, t.cellWritten x i = false) ∧ irq t = false ∧
    t = { s with ctu := {
      run := false, cfgErr := false, clkdiv := 0, act := .a, idx := 0, rrCh := .ch0
      mem := t.ctu.mem, bufEpoch := t.ctu.bufEpoch
      ready := ⟨false, false⟩, cnt := ⟨0, 0⟩, intr := ⟨false, false⟩, inte := ⟨false, false⟩
      txSt := .idle, txBuf := .a, txI := 0, txWord := 0, uq := [] } }

/-- R301: an RDU reset, in any state, sets every RDU element and changes nothing else. -/
def Obligations.RduResetValues : Prop :=
  ∀ s : State, exec .resetRdu s = .next { s with rdu := {
    rxq := [], sst := .hunt, phase := .left, haveLo := false, loByte := 0, leftVal := 0
    outValid := false, outL := 0, outR := 0, syncOffset := 0, syncErr := false, rdErr := false
    syncErrCnt := 0, rdErrCnt := 0, boundaryCnt := 0, frameCnt := 0, rxOpen := false } }

/-- R302: power-on is a reset of both units with nothing on the wire and nothing delivered, whatever the
state before; interrupts are masked and the line is low. -/
def Obligations.PowerOnIsBothResets : Prop :=
  ∀ (p : Params) (s t u : State), exec .resetCtu s = .next t → exec .resetRdu t = .next u →
    (State.powerOn p).rdu = u.rdu ∧
    (State.powerOn p).ctu = { u.ctu with
      mem := (State.powerOn p).ctu.mem, bufEpoch := (State.powerOn p).ctu.bufEpoch } ∧
    (State.powerOn p).wire = [] ∧ (State.powerOn p).pcmOut = [] ∧
    (State.powerOn p).ctu.inte = ⟨false, false⟩ ∧ irq (State.powerOn p) = false ∧
    (∀ x i, (State.powerOn p).cellWritten x i = false) ∧ State.reset = State.powerOn State.reset.params

/-! ## Invariants -/

/-- R46, (a) to (f): every step keeps them. -/
def Obligations.StepKeepsWellBehaved : Prop :=
  ∀ s t : State, s.WellBehaved → step s = .next t → t.WellBehaved

/-- R27, R90: every step of a well-behaved block keeps the arenas canonical, whole where a rule may read
them, and of 12-bit samples. -/
def Obligations.StepKeepsBuffersSound : Prop :=
  ∀ s t : State, s.WellBehaved → s.BuffersSound → step s = .next t → t.BuffersSound

/-- R123, R137: every step of a well-behaved block keeps cell `i` for channel `i mod 2` and the completions
alternating, A first. -/
def Obligations.StepKeepsRoundRobin : Prop :=
  ∀ s t : State, s.WellBehaved → s.RoundRobin → step s = .next t → t.RoundRobin

/-- The three invariants hold at power-on of any block with legal parameters, and at `State.reset` (whose
`N_LOG2 = 2` is the model's choice: log entry 2). -/
def Obligations.ResetIsGoodState : Prop :=
  (∀ p : Params, p.valid = true →
    (State.powerOn p).WellBehaved ∧ (State.powerOn p).BuffersSound ∧ (State.powerOn p).RoundRobin) ∧
  State.reset.WellBehaved ∧ State.reset.BuffersSound ∧ State.reset.RoundRobin

/-- No step of a well-behaved block faults: no agent reaches for a cell the arenas do not have (R60, R46 a). -/
def Obligations.WellBehavedStepNeverFaults : Prop :=
  ∀ (s : State) (f : Fault), s.WellBehaved → step s ≠ .fault f

/-- R285 (a): in a reachable state TX_LO sends the word it reads unchanged: the cell has been written since
CTU reset (so no free value is read, R27), and its value is below 4096. -/
def Obligations.SubstitutionNeverFires : Prop :=
  ∀ s t : State, s.reachable → exec .txLo s = .next t →
    s.cellWritten s.ctu.txBuf s.ctu.txI = true ∧
    s.readCell s.ctu.txBuf s.ctu.txI < 4096 ∧
    t.ctu.txWord = s.readCell s.ctu.txBuf s.ctu.txI

/-! ## Encodings and dispatch -/

/-- R105, R111: decoding the encoding of a well-formed instruction gives it back, with every operand. -/
def Obligations.DecodeEncodeRoundTrip : Prop :=
  ∀ i : Instr, i.wellFormed = true → decodeRequest (encode i) = .ok i

/-- R104: every 12-bit bus operation word, with any write data, is some well-formed instruction, and it is a
bus error exactly when `SIZE != 2` or `OFF[1:0] != 0`. -/
def Obligations.EveryBusWordSelectsOneRule : Prop :=
  ∀ (w : DispatchBits) (d : Reg), w < 4096 →
    ∃ i, decode .bus w d = .ok i ∧ i.wellFormed = true ∧
      ((w.extractLsb' 10 2 ≠ 2 ∨ w.extractLsb' 0 2 ≠ 0) ↔
        ∀ s : State, exec i s = .next (s.respond (if w.getLsbD 9 then .rdu else .ctu) .busErr))

/-- R107: the words that spell no step are refused by name, with any operand. -/
def Obligations.ReservedWordsRefused : Prop :=
  ∀ (w : DispatchBits) (d : Reg),
    (w < 128 → 5 ≤ w.extractLsb' 0 3 → decode .tx w d = .bad .reservedWord) ∧
    (w < 0x800000 → w.extractLsb' 9 2 = 3 → decode .rx w d = .bad .reservedWord) ∧
    (w < 256 → (6 ≤ w.extractLsb' 0 3 ∨ w.getLsbD 7 = true) → decode .link w d = .bad .reservedWord)

/-- R105: the row that the dispatch word of a state picks for an agent is one the agent can take: its guard
holds, and the step is taken. -/
def Obligations.DispatchedRowIsEnabled : Prop :=
  ∀ (c : Choice) (s : State) (i : Instr), s.ctu.idx < bufLen s.params → s.ctu.txI < bufLen s.params →
    decodeRequest (choiceRequest c s) = .ok i → ∃ t, exec i s = .next t

/-- R105, R111: an agent's step that runs is the row its dispatch word picks; so the row is the only one of
its agent that can run, but for the timeout of a lossy idle line, which has two rows with one effect (R81).
The operand slot holds the row's draw. -/
def Obligations.EnabledStepIsDispatched : Prop :=
  ∀ (i : Instr) (s t : State), exec i s = .next t →
    (encode i).fmt ≠ .bus → (encode i).fmt ≠ .rst → (encode i).fmt ≠ .enc →
    (i = .linkTimeoutLossy → s.wire ≠ []) →
    ∃ c, decodeRequest (choiceRequest c s) = .ok i

/-- R158, R185, R205, R125: with the output register full or `RXQ` empty no receiver row runs; with `UQ` full
no transmitter row runs but from idle; with `RUN = 0` no capture row does. -/
def Obligations.HeldAgentsHaveNoStep : Prop :=
  ∀ (i : Instr) (s : State),
    ((encode i).fmt = .rx → (s.rdu.outValid = true ∨ s.rdu.rxq = []) → exec i s = .refused .notEnabled) ∧
    ((encode i).fmt = .tx → s.ctu.txSt ≠ .idle → s.params.uartDepth ≤ s.ctu.uq.length →
      exec i s = .refused .notEnabled) ∧
    ((encode i).fmt = .cap → s.ctu.run = false → exec i s = .refused .notEnabled)

/-- A step runs the instruction that the next line of the trace decodes to, in the state with that line taken
off; a line the decoder refuses is refused by name (R109). (That the trace stands in the state is the model's
choice: log entry 1.) -/
def Obligations.StepRunsDecodedLine : Prop :=
  ∀ (s : State) (line : TraceLine) (rest : List TraceLine), s.trace = line :: rest →
    (∀ i, decodeRequest (fetchLine line s) = .ok i → step s = exec i { s with trace := rest }) ∧
    (∀ e, decodeRequest (fetchLine line s) = .bad e → step s = .refused (.badWord e))

/-- With no trace line left, a step of a well-behaved block completes. Where the scheduler's free choice is an
enabled step, the step is that one; where it is refused, and only there, the choice is passed over and nothing
changes but the count of choices. (The model's choice: R3 lets any enabled step come next; log entry 5. The
cases are told apart by the outcome of the free choice, which is a free value.) -/
def Obligations.EmptyTraceTakesFreeChoice : Prop :=
  ∀ s : State, s.WellBehaved → s.trace = [] →
    let o := State.runLine { s with tick := s.tick + 1 } (Config.schedule s.tick)
    (∃ t, o = .next t ∧ step s = .next t) ∨
      (∃ r, o = .refused r ∧ step s = .next { s with tick := s.tick + 1 })

/-- Words written out from the encodings of R103 and R106, one of each format, decode as the opcode map
says. -/
def Obligations.WrittenOutWordsDecode : Prop :=
  decode .cap 0b01 100 = .ok (.conv 100) ∧
  decode .tx 0b1001010 0 = .ok .txHiLast ∧
  decode .enc 0xFFFF 0 = .ok .encSubst ∧
  decode .uart 0b1 0 = .ok .uartShift ∧
  decode .link 0b01111100 0x12 = .ok (.linkCorrupt 0x12) ∧
  decode .rx 0b10011001000110000000000 0 = .ok .decLeft ∧
  decode .sink 0b1 0 = .ok .sinkAccept ∧
  decode .bus 0b100100001000 0x12345 = .ok (.wrCtuClkdiv 0x12345) ∧
  decode .rst 0b1 0 = .ok .resetRdu

/-! ## Rules of the whole machine -/

/-- R188: `SST` is left from `SYNCED` by an RDU reset only. -/
def Obligations.SyncedUntilRduReset : Prop :=
  ∀ (i : Instr) (s t : State), i ≠ .resetRdu → exec i s = .next t → s.rdu.sst = .synced →
    t.rdu.sst = .synced

/-- R28, R157: only the completion of a buffer sets its ready flag, and only the TX_TERM1 step of its packet
and a CTU reset clear it. -/
def Obligations.ReadyFlagWriters : Prop :=
  ∀ (i : Instr) (s t : State) (x : Buf), exec i s = .next t →
    (s.ctu.ready.get x = false → t.ctu.ready.get x = true →
      s.ctu.act = x ∧ ∃ v, i = .convComplete v) ∧
    (s.ctu.ready.get x = true → t.ctu.ready.get x = false →
      i = .resetCtu ∨ (i = .txTerm1 ∧ s.ctu.txBuf = x))

/-- R208: the phase is written by the lock, the two sample steps and an RDU reset, and by nothing else. -/
def Obligations.PhaseWriters : Prop :=
  ∀ (i : Instr) (s t : State), exec i s = .next t → t.rdu.phase ≠ s.rdu.phase →
    (i = .syncLock ∧ t.rdu.phase = .left) ∨ (i = .decLeft ∧ t.rdu.phase = .right) ∨
    (i = .decRight ∧ t.rdu.phase = .left) ∨ i = .resetRdu

/-- R21, R22: `RUN` and `CFG_ERR` are set by a write to `CTRL` only, and cleared by a CTU reset only. -/
def Obligations.RunAndCfgErrLatch : Prop :=
  ∀ (i : Instr) (s t : State), exec i s = .next t → i ≠ .resetCtu →
    (s.ctu.run = true → t.ctu.run = true) ∧ (s.ctu.cfgErr = true → t.ctu.cfgErr = true) ∧
    ((∀ d, i ≠ .wrCtuCtrl d) → t.ctu.run = s.ctu.run ∧ t.ctu.cfgErr = s.ctu.cfgErr)

/-- R44: what has been delivered stays delivered, through every step and every reset. -/
def Obligations.PcmOutIsAppendOnly : Prop :=
  ∀ s t : State, step s = .next t → ∃ more, t.pcmOut = s.pcmOut ++ more

/-- R2, R84: nothing flows back. What an instruction does to the CTU and how it answers the CTU's bus master
depend on the CTU alone: two states that agree on the CTU, the parameters and that response agree on them
after it, whatever the link and the RDU hold. -/
def Obligations.NoFeedbackToCtu : Prop :=
  ∀ (i : Instr) (s s' t t' : State), s.params = s'.params → s.ctu = s'.ctu → s.ctuBus = s'.ctuBus →
    exec i s = .next t → exec i s' = .next t' →
    t.params = t'.params ∧ t.ctu = t'.ctu ∧ t.ctuBus = t'.ctuBus

/-- R159 with R92: the transmitter's steps from its select step on, each byte taken by the UART before the
next, put on the wire exactly the packet of the words it reads, in `2N + 3` transmitter steps, and clear the
flag of the buffer sent, and no other. No other agent acts in between, so the words are the cells. -/
def Obligations.TransmitterSendsPacket : Prop :=
  ∀ (s : State) (x : Buf), s.params.valid = true → s.ctu.txSt = .idle → s.ctu.uq = [] →
    s.ctu.ready.get x = true → (x = .b → s.ctu.ready.a = false) →
    ∃ t u, s.runLine (.agent .tx) = .next t ∧
      t.sendBytes (2 * bufLen s.params + 2) = .next u ∧
      u.wire = s.wire ++ packet s.params ((List.range (bufLen s.params)).map (s.readCell x)) ∧
      u.ctu.txSt = .idle ∧ u.ctu.uq = [] ∧ u.ctu.ready.get x = false ∧
      u.ctu.ready.get (otherBuf x) = s.ctu.ready.get (otherBuf x) ∧
      (∀ a, u.readByte a = s.readByte a) ∧ u.rdu = s.rdu ∧ u.pcmOut = s.pcmOut ∧ u.params = s.params
end

