-- ==== Sys2Proof/Laws/PerInstr.lean ====
section
/-!
SUPPORT. A fact about every instruction as syntax: its encoding is a word of its format, and none of those
R107 says to refuse.
-/

namespace Sys2Proof.Laws

open Sys2Proof

/-- A word of at most `n` bits, carried in 24, has nothing above bit `n - 1`. -/
theorem shiftRight_setWidth {n : Nat} (hn : n ≤ 24) (w : BitVec n) : (w.setWidth 24 : DispatchBits) >>> n = 0 := by
  apply BitVec.eq_of_toNat_eq
  have hw := w.isLt
  have : w.toNat < 2 ^ 24 := lt_of_lt_of_le hw (Nat.pow_le_pow_right (by decide) hn)
  simp only [BitVec.toNat_ushiftRight, BitVec.toNat_setWidth, Nat.mod_eq_of_lt this,
    Nat.shiftRight_eq_div_pow]
  exact Nat.div_eq_of_lt hw

/-- Every bus operation word fits its 12 bits. -/
theorem busWord_fits {fmt : Format} (hf : fmt = .bus) (size : BitVec 2) (unit : BusUnit) (we : Bool) (off : Byte) :
    busWord size unit we off >>> formatWidth fmt = 0 ∧
      isReservedWord fmt (busWord size unit we off) = false := by
  subst hf
  exact ⟨shiftRight_setWidth (n := 12) (by decide) _, rfl⟩

end Sys2Proof.Laws

namespace Sys2Proof.Laws.EncodeFits

open Sys2Proof

/-- The word of `i` fits the width of its format (R106) and is not a reserved word (R107). -/
def Statement (i : Instr) : Prop :=
  (encode i).word >>> formatWidth (encode i).fmt = 0 ∧
    isReservedWord (encode i).fmt (encode i).word = false

theorem conv (v : BitVec 12) : Statement (.conv v) :=
  (by decide : (0x1 : DispatchBits) >>> 2 = 0 ∧ isReservedWord .cap 0x1 = false)
theorem convComplete (v : BitVec 12) : Statement (.convComplete v) :=
  (by decide : (0x3 : DispatchBits) >>> 2 = 0 ∧ isReservedWord .cap 0x3 = false)
theorem txSelectA : Statement .txSelectA := ⟨by decide, by decide⟩
theorem txSelectB : Statement .txSelectB := ⟨by decide, by decide⟩
theorem txPollNone : Statement .txPollNone := ⟨by decide, by decide⟩
theorem txLo : Statement .txLo := ⟨by decide, by decide⟩
theorem txHi : Statement .txHi := ⟨by decide, by decide⟩
theorem txHiLast : Statement .txHiLast := ⟨by decide, by decide⟩
theorem txTerm0 : Statement .txTerm0 := ⟨by decide, by decide⟩
theorem txTerm1 : Statement .txTerm1 := ⟨by decide, by decide⟩
theorem encSubst : Statement .encSubst := ⟨by decide, by decide⟩
theorem encPass (w : Half) : Statement (.encPass w) := ⟨shiftRight_setWidth (n := 16) (by decide) w, rfl⟩
theorem uartShift : Statement .uartShift := ⟨by decide, by decide⟩
theorem linkDeliver : Statement .linkDeliver := ⟨by decide, by decide⟩
theorem linkTimeout : Statement .linkTimeout := ⟨by decide, by decide⟩
theorem linkTimeoutLossy : Statement .linkTimeoutLossy := ⟨by decide, by decide⟩
theorem linkSkip : Statement .linkSkip := ⟨by decide, by decide⟩
theorem linkDrop : Statement .linkDrop := ⟨by decide, by decide⟩
theorem linkCorrupt (c : Byte) : Statement (.linkCorrupt c) :=
  (by decide : (0x4C : DispatchBits) >>> 8 = 0 ∧ isReservedWord .link 0x4C = false)
theorem linkInsert (c : Byte) : Statement (.linkInsert c) :=
  (by decide : (0x45 : DispatchBits) >>> 8 = 0 ∧ isReservedWord .link 0x45 = false)
theorem syncHuntFf : Statement .syncHuntFf := ⟨by decide, by decide⟩
theorem syncHuntOther : Statement .syncHuntOther := ⟨by decide, by decide⟩
theorem syncLock : Statement .syncLock := ⟨by decide, by decide⟩
theorem syncResume : Statement .syncResume := ⟨by decide, by decide⟩
theorem syncErrEvent : Statement .syncErrEvent := ⟨by decide, by decide⟩
theorem decFirst : Statement .decFirst := ⟨by decide, by decide⟩
theorem decErrEmpty : Statement .decErrEmpty := ⟨by decide, by decide⟩
theorem decBoundary : Statement .decBoundary := ⟨by decide, by decide⟩
theorem decLeft : Statement .decLeft := ⟨by decide, by decide⟩
theorem decRight : Statement .decRight := ⟨by decide, by decide⟩
theorem decErrShort : Statement .decErrShort := ⟨by decide, by decide⟩
theorem sinkAccept : Statement .sinkAccept := ⟨by decide, by decide⟩
theorem buserrSizeNarrow (half : Bool) (unit : BusUnit) (we : Bool) (off : Byte) : Statement (.buserrSizeNarrow half unit we off) :=
  busWord_fits rfl _ _ _ _
theorem buserrSizeNone (unit : BusUnit) (we : Bool) (off : Byte) : Statement (.buserrSizeNone unit we off) :=
  busWord_fits rfl _ _ _ _
theorem buserrAlignOdd (unit : BusUnit) (we : Bool) (off : Byte) : Statement (.buserrAlignOdd unit we off) :=
  busWord_fits rfl _ _ _ _
theorem buserrAlignHalf (unit : BusUnit) (we : Bool) (off : Byte) : Statement (.buserrAlignHalf unit we off) :=
  busWord_fits rfl _ _ _ _
theorem rdCtuCtrl : Statement .rdCtuCtrl := busWord_fits rfl _ _ _ _
theorem wrCtuCtrl (d : Reg) : Statement (.wrCtuCtrl d) := busWord_fits rfl _ _ _ _
theorem rdCtuStatus : Statement .rdCtuStatus := busWord_fits rfl _ _ _ _
theorem wrCtuStatus (d : Reg) : Statement (.wrCtuStatus d) := busWord_fits rfl _ _ _ _
theorem rdCtuClkdiv : Statement .rdCtuClkdiv := busWord_fits rfl _ _ _ _
theorem wrCtuClkdiv (d : Reg) : Statement (.wrCtuClkdiv d) := busWord_fits rfl _ _ _ _
theorem rdCtuCntA : Statement .rdCtuCntA := busWord_fits rfl _ _ _ _
theorem wrCtuCntA (d : Reg) : Statement (.wrCtuCntA d) := busWord_fits rfl _ _ _ _
theorem rdCtuCntB : Statement .rdCtuCntB := busWord_fits rfl _ _ _ _
theorem wrCtuCntB (d : Reg) : Statement (.wrCtuCntB d) := busWord_fits rfl _ _ _ _
theorem rdCtuIntr : Statement .rdCtuIntr := busWord_fits rfl _ _ _ _
theorem wrCtuIntr (d : Reg) : Statement (.wrCtuIntr d) := busWord_fits rfl _ _ _ _
theorem rdCtuInte : Statement .rdCtuInte := busWord_fits rfl _ _ _ _
theorem wrCtuInte (d : Reg) : Statement (.wrCtuInte d) := busWord_fits rfl _ _ _ _
theorem rdCtuInts : Statement .rdCtuInts := busWord_fits rfl _ _ _ _
theorem wrCtuInts (d : Reg) : Statement (.wrCtuInts d) := busWord_fits rfl _ _ _ _
theorem rdCtuConfig : Statement .rdCtuConfig := busWord_fits rfl _ _ _ _
theorem wrCtuConfig (d : Reg) : Statement (.wrCtuConfig d) := busWord_fits rfl _ _ _ _
theorem rdRduRstatus : Statement .rdRduRstatus := busWord_fits rfl _ _ _ _
theorem wrRduRstatus (d : Reg) : Statement (.wrRduRstatus d) := busWord_fits rfl _ _ _ _
theorem rdRduSyncOffset : Statement .rdRduSyncOffset := busWord_fits rfl _ _ _ _
theorem wrRduSyncOffset (d : Reg) : Statement (.wrRduSyncOffset d) := busWord_fits rfl _ _ _ _
theorem rdRduSyncErrCnt : Statement .rdRduSyncErrCnt := busWord_fits rfl _ _ _ _
theorem wrRduSyncErrCnt (d : Reg) : Statement (.wrRduSyncErrCnt d) := busWord_fits rfl _ _ _ _
theorem rdRduRdErrCnt : Statement .rdRduRdErrCnt := busWord_fits rfl _ _ _ _
theorem wrRduRdErrCnt (d : Reg) : Statement (.wrRduRdErrCnt d) := busWord_fits rfl _ _ _ _
theorem rdRduBoundaryCnt : Statement .rdRduBoundaryCnt := busWord_fits rfl _ _ _ _
theorem wrRduBoundaryCnt (d : Reg) : Statement (.wrRduBoundaryCnt d) := busWord_fits rfl _ _ _ _
theorem rdRduFrameCnt : Statement .rdRduFrameCnt := busWord_fits rfl _ _ _ _
theorem wrRduFrameCnt (d : Reg) : Statement (.wrRduFrameCnt d) := busWord_fits rfl _ _ _ _
theorem rdRduOutFrame : Statement .rdRduOutFrame := busWord_fits rfl _ _ _ _
theorem wrRduOutFrame (d : Reg) : Statement (.wrRduOutFrame d) := busWord_fits rfl _ _ _ _
theorem rdRduLeftHold : Statement .rdRduLeftHold := busWord_fits rfl _ _ _ _
theorem wrRduLeftHold (d : Reg) : Statement (.wrRduLeftHold d) := busWord_fits rfl _ _ _ _
theorem rdReserved (unit : BusUnit) (off : Byte) : Statement (.rdReserved unit off) :=
  busWord_fits rfl _ _ _ _
theorem wrReserved (unit : BusUnit) (off : Byte) (d : Reg) : Statement (.wrReserved unit off d) :=
  busWord_fits rfl _ _ _ _
theorem resetCtu : Statement .resetCtu := ⟨by decide, by decide⟩
theorem resetRdu : Statement .resetRdu := ⟨by decide, by decide⟩

end Sys2Proof.Laws.EncodeFits
end

