-- ==== Sys2Proof/Tests/Slice0.lean ====
section
/-!
SUPPORT. Tests: ill-formed terms, words written out from the encodings of R103 and R106 (at least one for every
constructor), single steps with the start and end states of spec/95_test_vectors.md, and for each
statement with hypotheses a state that meets them (the theorems named `meets_…`).
-/

namespace Sys2Proof.Tests

open Sys2Proof Sys2Proof.Machine

/-! ## Small states -/

/-- The parameters of spec/95's vectors, `N = 4`. -/
def four : Params := ⟨2, 0x7FFE, 1, false⟩

/-- The same on a lossy link. -/
def lossy : Params := ⟨2, 0x7FFE, 1, true⟩

/-- The shortest buffers, `N = 2`, with a queue of two bytes. -/
def two : Params := ⟨1, 0x7FFE, 2, false⟩

/-- A field of the next state. -/
def got {α : Type} (o : Outcome) (f : State → α) : Option α :=
  match o with
  | .next t => some (f t)
  | _ => none

/-- Why a step is refused. -/
def refusal (o : Outcome) : Option Refusal :=
  match o with
  | .refused r => some r
  | _ => none

/-- The next state, or the given one. -/
def after (o : Outcome) (s : State) : State :=
  match o with
  | .next t => t
  | _ => s

/-- Capturing into buffer A at cell `i`. -/
def filling (i : Nat) : State :=
  let s := State.powerOn four
  { s with ctu.run := true, ctu.clkdiv := 16, ctu.idx := i, ctu.rrCh := if i % 2 = 0 then .ch0 else .ch1 }

/-- The transmitter in state `st`, sending buffer A from cell `i`; the cell at 0 holds 0x0FFF. -/
def sending (st : TxSt) (i : Nat) : State :=
  let s := State.powerOn four
  { s with ctu.run := true, ctu.clkdiv := 16, ctu.ready := ⟨true, false⟩, ctu.txSt := st, ctu.txI := i,
           ctu.txWord := 0x0FA5, ctu.mem := [(0, 0xFF), (1, 0x0F)] }

/-- The receiver in state `st` with `q` waiting. -/
def receiving (st : SyncSt) (q : List RxEvent) : State :=
  let s := State.powerOn four
  { s with rdu.sst := st, rdu.rxq := q }

/-- The receiver with the first byte of a pair latched and the second waiting. -/
def pairing (ph : Phase) (b0 : Byte) (e : RxEvent) : State :=
  let s := receiving .synced [e]
  { s with rdu.haveLo := true, rdu.loByte := b0, rdu.phase := ph, rdu.leftVal := 0x8640 }

/-- Bytes on the wire of a block with the given parameters. -/
def onWire (p : Params) (bs : List Byte) : State :=
  let s := State.powerOn p
  { s with wire := bs }

/-! ## Ill-formed terms -/

theorem test_wellFormed_enc : (Instr.encPass 0xFFFF).wellFormed = false ∧
    (Instr.encPass 0xFFFE).wellFormed = true := by decide

theorem test_wellFormed_alignOdd : (Instr.buserrAlignOdd .ctu true 0x06).wellFormed = false ∧
    (Instr.buserrAlignOdd .ctu true 0x07).wellFormed = true := by decide

theorem test_wellFormed_alignHalf : (Instr.buserrAlignHalf .rdu false 0x04).wellFormed = false ∧
    (Instr.buserrAlignHalf .rdu false 0x05).wellFormed = false ∧
    (Instr.buserrAlignHalf .rdu false 0x06).wellFormed = true := by decide

theorem test_wellFormed_rdReserved : (Instr.rdReserved .ctu 0x20).wellFormed = false ∧
    (Instr.rdReserved .ctu 0x26).wellFormed = false ∧ (Instr.rdReserved .rdu 0x1C).wellFormed = false ∧
    (Instr.rdReserved .ctu 0x24).wellFormed = true ∧ (Instr.rdReserved .rdu 0x20).wellFormed = true := by
  decide

theorem test_wellFormed_wrReserved : (Instr.wrReserved .ctu 0x00 1).wellFormed = false ∧
    (Instr.wrReserved .rdu 0x21 1).wellFormed = false ∧
    (Instr.wrReserved .rdu 0xFC 1).wellFormed = true := by decide

/-! ## Decoding of words written out bit by bit

Bits of each word, most significant first: `cap` LAST RUN; `tx` LAST UQFULL READY[B] READY[A] TX_ST; `link`
0 LOSSY RXQE RX_OPEN WNE CODE; `rx` RXQNE OUT_VALID LO_BYTE PHASE HAVE_LO SST ERR B; `bus` SIZE UNIT WE OFF. -/

theorem test_decode_cap :
    decode .cap 0b01 0x123 = .ok (.conv 0x123) ∧
    decode .cap 0b11 0xFFF = .ok (.convComplete 0xFFF) ∧
    decode .cap 0b00 0 = .bad .noRow ∧ decode .cap 0b10 0 = .bad .noRow ∧
    decode .cap 0b101 0 = .bad .tooWide := by decide

theorem test_decode_tx :
    decode .tx 0b0111000 0 = .ok .txSelectA ∧ decode .tx 0b0010000 0 = .ok .txSelectB ∧
    decode .tx 0b1000000 0 = .ok .txPollNone ∧ decode .tx 0b0001001 0 = .ok .txLo ∧
    decode .tx 0b0001010 0 = .ok .txHi ∧ decode .tx 0b1001010 0 = .ok .txHiLast ∧
    decode .tx 0b1001011 0 = .ok .txTerm0 ∧ decode .tx 0b1001100 0 = .ok .txTerm1 ∧
    decode .tx 0b0101001 0 = .bad .noRow := by decide

theorem test_decode_enc :
    decode .enc 0b1111111111111111 0 = .ok .encSubst ∧
    decode .enc 0b0000111111111111 0 = .ok (.encPass 0x0FFF) := by decide

theorem test_decode_uart_sink_rst :
    decode .uart 0b1 0 = .ok .uartShift ∧ decode .uart 0b0 0 = .bad .noRow ∧
    decode .sink 0b1 0 = .ok .sinkAccept ∧ decode .sink 0b0 0 = .bad .noRow ∧
    decode .rst 0b0 0 = .ok .resetCtu ∧ decode .rst 0b1 0 = .ok .resetRdu := by decide

/-- spec/95 section 2.5. -/
theorem test_decode_link :
    decode .link 0b00111000 0 = .ok .linkDeliver ∧ decode .link 0b00010001 0 = .ok .linkTimeout ∧
    decode .link 0b01111001 0 = .ok .linkTimeoutLossy ∧ decode .link 0b00101010 0 = .ok .linkSkip ∧
    decode .link 0b01111011 0 = .ok .linkDrop ∧ decode .link 0b01111100 0x5A = .ok (.linkCorrupt 0x5A) ∧
    decode .link 0b01110101 0x12 = .ok (.linkInsert 0x12) ∧ decode .link 0b00111001 0 = .bad .noRow ∧
    decode .link 0b00110101 0 = .bad .noRow := by decide

/-- spec/95 section 2.6. -/
theorem test_decode_sync :
    decode .rx 0b10000000000000011111111 0 = .ok .syncHuntFf ∧
    decode .rx 0b10000000000000001100100 0 = .ok .syncHuntOther ∧
    decode .rx 0b10000000001001011111111 0 = .ok .syncLock ∧
    decode .rx 0b10000000000001000001111 0 = .ok .syncResume ∧
    decode .rx 0b10000000000001100000000 0 = .ok .syncErrEvent ∧
    decode .rx 0b11000000000000011111111 0 = .bad .noRow := by decide

/-- spec/95 section 2.7. -/
theorem test_decode_dec :
    decode .rx 0b10111111110111011111111 0 = .bad .reservedWord ∧
    decode .rx 0b10111111110010011111111 0 = .ok .decFirst ∧
    decode .rx 0b10000000001010100000000 0 = .ok .decErrEmpty ∧
    decode .rx 0b10111111111110011111111 0 = .ok .decBoundary ∧
    decode .rx 0b10111111110110000001111 0 = .ok .decLeft ∧
    decode .rx 0b10111111111110000001111 0 = .ok .decRight ∧
    decode .rx 0b10011001001110100000000 0 = .ok .decErrShort := by decide

theorem test_decode_busErrors :
    decode .bus 0b010000000100 9 = .ok (.buserrSizeNarrow true .ctu false 0x04) ∧
    decode .bus 0b001100000001 9 = .ok (.buserrSizeNarrow false .rdu true 0x01) ∧
    decode .bus 0b110100000000 9 = .ok (.buserrSizeNone .ctu true 0x00) ∧
    decode .bus 0b100000000111 9 = .ok (.buserrAlignOdd .ctu false 0x07) ∧
    decode .bus 0b101100000110 9 = .ok (.buserrAlignHalf .rdu true 0x06) := by decide

theorem test_decode_ctuReads :
    decode .bus 0b100000000000 9 = .ok .rdCtuCtrl ∧ decode .bus 0b100000000100 9 = .ok .rdCtuStatus ∧
    decode .bus 0b100000001000 9 = .ok .rdCtuClkdiv ∧ decode .bus 0b100000001100 9 = .ok .rdCtuCntA ∧
    decode .bus 0b100000010000 9 = .ok .rdCtuCntB ∧ decode .bus 0b100000010100 9 = .ok .rdCtuIntr ∧
    decode .bus 0b100000011000 9 = .ok .rdCtuInte ∧ decode .bus 0b100000011100 9 = .ok .rdCtuInts ∧
    decode .bus 0b100000100000 9 = .ok .rdCtuConfig := by decide

theorem test_decode_ctuWrites :
    decode .bus 0b100100000000 9 = .ok (.wrCtuCtrl 9) ∧
    decode .bus 0b100100000100 9 = .ok (.wrCtuStatus 9) ∧
    decode .bus 0b100100001000 9 = .ok (.wrCtuClkdiv 9) ∧
    decode .bus 0b100100001100 9 = .ok (.wrCtuCntA 9) ∧
    decode .bus 0b100100010000 9 = .ok (.wrCtuCntB 9) ∧
    decode .bus 0b100100010100 9 = .ok (.wrCtuIntr 9) ∧
    decode .bus 0b100100011000 9 = .ok (.wrCtuInte 9) ∧
    decode .bus 0b100100011100 9 = .ok (.wrCtuInts 9) ∧
    decode .bus 0b100100100000 9 = .ok (.wrCtuConfig 9) := by decide

theorem test_decode_rduReads :
    decode .bus 0b101000000000 9 = .ok .rdRduRstatus ∧
    decode .bus 0b101000000100 9 = .ok .rdRduSyncOffset ∧
    decode .bus 0b101000001000 9 = .ok .rdRduSyncErrCnt ∧
    decode .bus 0b101000001100 9 = .ok .rdRduRdErrCnt ∧
    decode .bus 0b101000010000 9 = .ok .rdRduBoundaryCnt ∧
    decode .bus 0b101000010100 9 = .ok .rdRduFrameCnt ∧
    decode .bus 0b101000011000 9 = .ok .rdRduOutFrame ∧
    decode .bus 0b101000011100 9 = .ok .rdRduLeftHold := by decide

theorem test_decode_rduWrites :
    decode .bus 0b101100000000 9 = .ok (.wrRduRstatus 9) ∧
    decode .bus 0b101100000100 9 = .ok (.wrRduSyncOffset 9) ∧
    decode .bus 0b101100001000 9 = .ok (.wrRduSyncErrCnt 9) ∧
    decode .bus 0b101100001100 9 = .ok (.wrRduRdErrCnt 9) ∧
    decode .bus 0b101100010000 9 = .ok (.wrRduBoundaryCnt 9) ∧
    decode .bus 0b101100010100 9 = .ok (.wrRduFrameCnt 9) ∧
    decode .bus 0b101100011000 9 = .ok (.wrRduOutFrame 9) ∧
    decode .bus 0b101100011100 9 = .ok (.wrRduLeftHold 9) := by decide

theorem test_decode_reserved :
    decode .bus 0b100000100100 9 = .ok (.rdReserved .ctu 0x24) ∧
    decode .bus 0b101100100000 9 = .ok (.wrReserved .rdu 0x20 9) := by decide

/-! ## Single steps: the vectors of spec/95, section 2, by their numbers -/

/-- 2.1, 2. -/
theorem test_conv : got (exec (.conv 4095) (filling 2)) (fun t =>
    (t.ctu.idx, t.ctu.rrCh, t.ctu.act, t.ctu.mem)) =
    some (3, .ch1, .a, [(4, 0xFF), (5, 0x0F)]) := by decide

/-- 2.1, 5: the counter wraps. -/
theorem test_convComplete : got (exec (.convComplete 1)
      { filling 3 with ctu.cnt := ⟨0xFFFFFFFF, 0⟩ }) (fun t =>
    (t.ctu.idx, t.ctu.act, t.ctu.ready, t.ctu.cnt, t.ctu.intr)) =
    some (0, .b, ⟨true, false⟩, ⟨0, 0⟩, ⟨true, false⟩) := by decide

/-- 2.1, 4: B completes again before it was sent. -/
theorem test_convComplete_overrun : got (exec (.convComplete 7)
      { filling 3 with ctu.act := .b, ctu.ready := ⟨true, true⟩, ctu.cnt := ⟨1, 5⟩,
                       ctu.intr := ⟨false, true⟩ }) (fun t =>
    (t.ctu.act, t.ctu.ready, t.ctu.cnt, t.ctu.intr, t.readCell .b 3)) =
    some (.a, ⟨true, true⟩, ⟨1, 6⟩, ⟨false, true⟩, 7) := by decide

/-- R150: A goes first. -/
theorem test_txSelectA : got (exec .txSelectA { sending .idle 3 with ctu.ready := ⟨true, true⟩ }) (fun t =>
    (t.ctu.txBuf, t.ctu.txI, t.ctu.txSt, t.ctu.ready, t.ctu.uq)) =
    some (.a, 0, .dataLo, ⟨true, true⟩, []) := by decide

theorem test_txSelectB : got (exec .txSelectB { sending .idle 3 with ctu.ready := ⟨false, true⟩ }) (fun t =>
    (t.ctu.txBuf, t.ctu.txI, t.ctu.txSt)) = some (.b, 0, .dataLo) := by decide

theorem test_txPollNone : exec .txPollNone State.reset = .next State.reset := rfl

/-- R152 on 0x0FFF, whose low byte is the terminator's. -/
theorem test_txLo : got (exec .txLo (sending .dataLo 0)) (fun t =>
    (t.ctu.uq, t.ctu.txWord, t.ctu.txSt, t.ctu.txI)) = some ([0xFF], 0x0FFF, .dataHi, 0) := by decide

/-- R153, R154: the latched word's high byte, not the cell's. -/
theorem test_txHi : got (exec .txHi (sending .dataHi 2)) (fun t => (t.ctu.uq, t.ctu.txI, t.ctu.txSt)) =
      some ([0x0F], 3, .dataLo) ∧
    refusal (exec .txHi (sending .dataHi 3)) = some .notEnabled := by decide

theorem test_txHiLast : got (exec .txHiLast (sending .dataHi 3)) (fun t =>
    (t.ctu.uq, t.ctu.txI, t.ctu.txSt)) = some ([0x0F], 3, .term0) := by decide

theorem test_txTerm0 : got (exec .txTerm0 (sending .term0 3)) (fun t => (t.ctu.uq, t.ctu.txSt)) =
      some ([0xFF], .term1) ∧
    refusal (exec .txTerm0 { sending .term0 3 with ctu.uq := [1] }) = some .notEnabled := by decide

theorem test_txTerm1 : got (exec .txTerm1 { sending .term1 3 with ctu.ready := ⟨true, true⟩ }) (fun t =>
    (t.ctu.uq, t.ctu.ready, t.ctu.txSt)) = some ([0xFF], ⟨false, true⟩, .idle) := by decide

/-- Vector E7. -/
theorem test_encSubst : got (exec .encSubst State.reset) (fun t => t.encOut) = some 0x7FFE := by decide

theorem test_encPass : got (exec (.encPass 0xFF00) State.reset) (fun t => t.encOut) = some 0xFF00 := by
  decide

/-- 2.4, 2. -/
theorem test_uartShift : got (exec .uartShift { onWire two [0x00] with ctu.uq := [0xFE, 0xFF] })
    (fun t => (t.ctu.uq, t.wire)) = some ([0xFF], [0x00, 0xFE]) := by decide

/-- 2.5, 1. -/
theorem test_linkDeliver : got (exec .linkDeliver (onWire four [0x64, 0x00])) (fun t => (t.wire, t.rdu.rxq)) =
    some ([0x00], [.byte 0x64]) := by decide

/-- 2.5, 2 and 3. -/
theorem test_linkTimeout : got (exec .linkTimeout (receiving .hunt [.byte 0x10])) (fun t => t.rdu.rxq) =
      some [.byte 0x10, .err] ∧
    refusal (exec .linkTimeout (onWire four [0x64])) = some .notEnabled := by decide

/-- 2.5, 4. -/
theorem test_linkTimeoutLossy : got (exec .linkTimeoutLossy (onWire lossy [0x64])) (fun t =>
    (t.wire, t.rdu.rxq)) = some ([0x64], [.err]) := by decide

/-- 2.5, 5 and 6. -/
theorem test_linkSkip : got (exec .linkSkip (onWire four [0xFF, 0x00])) (fun t => (t.wire, t.rdu.rxq)) =
      some ([0x00], []) ∧
    refusal (exec .linkSkip { onWire four [0xFF] with rdu.rxOpen := true }) = some .notEnabled := by decide

/-- 2.5, 8 and 11. -/
theorem test_linkDrop : got (exec .linkDrop (onWire lossy [0xFF, 0x01])) (fun t => t.wire) = some [0x01] ∧
    refusal (exec .linkDrop (onWire four [0xFF])) = some .notEnabled := by decide

/-- 2.5, 9. -/
theorem test_linkCorrupt : got (exec (.linkCorrupt 0x00) (onWire lossy [0xFF, 0xFF])) (fun t =>
    (t.wire, t.rdu.rxq)) = some ([0x00, 0xFF], []) := by decide

/-- 2.5, 10 and 12. -/
theorem test_linkInsert : got (exec (.linkInsert 0x12) (onWire lossy [])) (fun t => (t.wire, t.rdu.rxq)) =
      some ([], [.byte 0x12]) ∧
    refusal (exec (.linkInsert 0x12) (onWire four [])) = some .notEnabled := by decide

/-- 2.6, 2. -/
theorem test_syncHuntFf : got (exec .syncHuntFf (receiving .hunt [.byte 0xFF])) (fun t =>
    (t.rdu.sst, t.rdu.syncOffset, t.rdu.rxq, t.rdu.rxOpen)) = some (.sawFf, 1, [], true) := by decide

/-- 2.6, 1. -/
theorem test_syncHuntOther : got (exec .syncHuntOther (receiving .hunt [.byte 0x64, .err])) (fun t =>
    (t.rdu.sst, t.rdu.syncOffset, t.rdu.rxq, t.rdu.rxOpen)) = some (.hunt, 1, [.err], true) := by decide

/-- 2.6, 3: the phase is written whatever it was. -/
theorem test_syncLock : got (exec .syncLock { receiving .sawFf [.byte 0xFF, .byte 0xFF] with
      rdu.phase := .right, rdu.syncOffset := 4 }) (fun t =>
    (t.rdu.sst, t.rdu.phase, t.rdu.haveLo, t.rdu.syncOffset, t.rdu.rxq)) =
    some (.synced, .left, false, 5, [.byte 0xFF]) := by decide

/-- 2.6, 4. -/
theorem test_syncResume : got (exec .syncResume (receiving .sawFf [.byte 0x0F])) (fun t =>
    (t.rdu.sst, t.rdu.syncOffset)) = some (.hunt, 1) := by decide

/-- 2.6, 6: the counter wraps, and no byte position is taken. -/
theorem test_syncErrEvent : got (exec .syncErrEvent { receiving .sawFf [.err] with
      rdu.syncErrCnt := 0xFFFFFFFF }) (fun t =>
    (t.rdu.sst, t.rdu.syncErr, t.rdu.syncErrCnt, t.rdu.syncOffset, t.rdu.rdErrCnt)) =
    some (.hunt, true, 0, 0, 0) := by decide

/-- 2.7, 9: a stale latch is not read. -/
theorem test_decFirst : got (exec .decFirst { receiving .synced [.byte 0xFF] with rdu.loByte := 0xFF })
    (fun t => (t.rdu.haveLo, t.rdu.loByte, t.rdu.boundaryCnt)) = some (true, 0xFF, 0) := by decide

/-- 2.7, 10. -/
theorem test_decErrEmpty : got (exec .decErrEmpty { receiving .synced [.err] with rdu.phase := .right })
    (fun t => (t.rdu.phase, t.rdu.rdErr, t.rdu.rdErrCnt, t.rdu.syncErr, t.rdu.sst)) =
    some (.right, true, 1, false, .synced) := by decide

/-- 2.7, 5: a boundary inside a frame. -/
theorem test_decBoundary : got (exec .decBoundary (pairing .right 0xFF (.byte 0xFF))) (fun t =>
    (t.rdu.phase, t.rdu.leftVal, t.rdu.haveLo, t.rdu.boundaryCnt, t.rdu.frameCnt)) =
    some (.right, 0x8640, false, 1, 0) := by decide

/-- 2.7, 6 and 7: `FF` in one half only is a sample; the transform wraps. -/
theorem test_decLeft : got (exec .decLeft (pairing .left 0x00 (.byte 0xFF))) (fun t =>
      (t.rdu.leftVal.toInt, t.rdu.phase, t.rdu.haveLo)) = some (28672, .right, false) ∧
    got (exec .decLeft (pairing .left 0xFF (.byte 0x0F))) (fun t => t.rdu.leftVal.toInt) =
      some 32752 := by decide

/-- 2.7, 3. -/
theorem test_decRight : got (exec .decRight (pairing .right 0xFF (.byte 0x0F))) (fun t =>
    (t.rdu.outL.toInt, t.rdu.outR.toInt, t.rdu.outValid, t.rdu.phase, t.rdu.haveLo, t.rdu.frameCnt)) =
    some (-31168, 32752, true, .left, false, 1) := by decide

/-- 2.7, 11. -/
theorem test_decErrShort : got (exec .decErrShort (pairing .right 0x64 .err)) (fun t =>
    (t.rdu.phase, t.rdu.haveLo, t.rdu.rdErr, t.rdu.rdErrCnt)) = some (.right, false, true, 1) := by decide

/-- 2.7, 12: the output hold. -/
theorem test_outputHold : refusal (exec .decRight { pairing .right 0x64 (.byte 0x00) with
    rdu.outValid := true }) = some .notEnabled := by decide

/-- 2.8, 1. -/
theorem test_sinkAccept : got (exec .sinkAccept { receiving .synced [] with
      rdu.outValid := true, rdu.outL := 0x8640, rdu.outR := 0x7FF0 }) (fun t =>
    (t.rdu.outValid, t.pcmOut)) = some (false, [0x40, 0x86, 0xF0, 0x7F]) := by decide

/-- 2.9, 3. -/
theorem test_rdCtuStatus : got (exec .rdCtuStatus { sending .dataLo 0 with ctu.act := .b }) (fun t =>
    t.ctuBus) = some (.okRead 0x55) := by decide

/-- 2.9, 4. -/
theorem test_rdCtuStatus_b : got (exec .rdCtuStatus { sending .idle 0 with
      ctu.act := .b, ctu.ready := ⟨false, true⟩, ctu.rrCh := .ch1, ctu.txBuf := .b }) (fun t => t.ctuBus) =
    some (.okRead 0x6E) := by decide

/-- 2.9, 6 and 7. -/
theorem test_wrCtuCtrl : got (exec (.wrCtuCtrl 1) { State.reset with ctu.clkdiv := 16 }) (fun t =>
      (t.ctu.run, t.ctu.cfgErr, t.ctuBus)) = some (true, false, .okWrite) ∧
    got (exec (.wrCtuCtrl 1) State.reset) (fun t => (t.ctu.run, t.ctu.cfgErr, t.ctuBus)) =
      some (false, true, .okWrite) := by decide

/-- 2.9, 13 and 14. -/
theorem test_wrCtuClkdiv : got (exec (.wrCtuClkdiv 0x12345) State.reset) (fun t => t.ctu.clkdiv) =
      some 0x2345 ∧
    got (exec (.wrCtuClkdiv 9) (filling 0)) (fun t => t.ctu.clkdiv) = some 16 := by decide

/-- 2.9, 23 and 25. -/
theorem test_wrCtuIntr : got (exec (.wrCtuIntr 1) { filling 0 with ctu.intr := ⟨true, true⟩ }) (fun t =>
      t.ctu.intr) = some ⟨false, true⟩ ∧
    got (exec (.wrCtuIntr 0xFFFFFFFC) { filling 0 with ctu.intr := ⟨true, true⟩ }) (fun t => t.ctu.intr) =
      some ⟨true, true⟩ := by decide

/-- 2.9, 27: enabling a pending source raises the line at once. -/
theorem test_wrCtuInte : got (exec (.wrCtuInte 3) { filling 0 with ctu.intr := ⟨true, false⟩ }) (fun t =>
    (t.ctu.inte, irq t)) = some (⟨true, true⟩, true) := by decide

/-- 2.9, 29. -/
theorem test_rdCtuInts : got (exec .rdCtuInts { filling 0 with
      ctu.intr := ⟨true, true⟩, ctu.inte := ⟨false, true⟩ }) (fun t => t.ctuBus) =
    some (.okRead 2) := by decide

/-- 2.9, 31. -/
theorem test_rdCtuConfig : got (exec .rdCtuConfig (State.powerOn four)) (fun t => t.ctuBus) =
    some (.okRead 0x7FFE0002) := by decide

/-- 2.10, 3. -/
theorem test_rdRduRstatus : got (exec .rdRduRstatus { pairing .right 0 .err with
      rdu.outValid := true, rdu.syncErr := true, rdu.rdErr := true }) (fun t => t.rduBus) =
    some (.okRead 0x7E) := by decide

/-- 2.10, 6 and 7. -/
theorem test_wrRduRstatus : got (exec (.wrRduRstatus 0x20) { receiving .synced [] with
      rdu.syncErr := true, rdu.rdErr := true }) (fun t => (t.rdu.syncErr, t.rdu.rdErr)) =
      some (false, true) ∧
    got (exec (.wrRduRstatus 0x1F) { receiving .synced [] with rdu.syncErr := true, rdu.rdErr := true })
      (fun t => (t.rdu.syncErr, t.rdu.rdErr)) = some (true, true) := by decide

/-- 2.10, 13. -/
theorem test_rdRduOutFrame : got (exec .rdRduOutFrame { receiving .synced [] with
      rdu.outL := 0x8640, rdu.outR := 0x7FF0 }) (fun t => t.rduBus) = some (.okRead 0x7FF08640) := by decide

/-- 2.10, 15. -/
theorem test_rdRduLeftHold : got (exec .rdRduLeftHold (pairing .left 0 .err)) (fun t => t.rduBus) =
    some (.okRead 0x8640) := by decide

/-- 2.11, 3: no register changes. -/
theorem test_busError : got (exec (.buserrSizeNarrow true .ctu true 0x00)
      { State.reset with ctu.clkdiv := 16 }) (fun t => (t.ctuBus, t.ctu.run)) =
    some (.busErr, false) := by decide

/-- R300: the RDU keeps its state. -/
theorem test_resetCtu : got (exec .resetCtu { sending .dataHi 2 with wire := [1], rdu.rxq := [.err] })
    (fun t => (t.ctu.run, t.ctu.mem, t.wire, t.rdu.rxq)) = some (false, [], [1], [.err]) := by decide

/-- R301: the CTU and the link keep theirs. -/
theorem test_resetRdu : got (exec .resetRdu { sending .dataHi 2 with wire := [1], rdu.rxq := [.err] })
    (fun t => (t.ctu.run, t.ctu.txSt, t.wire, t.rdu.rxq)) = some (true, .dataHi, [1], []) := by decide

/-- R60: the arenas have no cell 4 where `N = 4`. -/
theorem test_noSuchCell : exec (.conv 0) (filling 4) = .fault .noSuchCell := rfl

/-- The line of a character (R98, R166): 0x01 goes out as start, one, seven zeros, stop. -/
theorem test_lineBits : lineBits 0x01 =
    [false, true, false, false, false, false, false, false, false, true] := by decide

/-- R98: high before and after a character. -/
theorem test_lineLevels : lineLevels [none, some 0x00, none] =
    [true, false, false, false, false, false, false, false, false, false, true, true] := by decide

/-- R110: RXALL takes the waiting frame, then the waiting event. -/
theorem test_rxAll : got (State.rxAll { receiving .synced [.byte 0x64] with rdu.outValid := true }) (fun t =>
    (t.pcmOut.length, t.rdu.outValid, t.rdu.rxq, t.rdu.loByte)) = some (4, false, [], 0x64) := by decide

/-- A poll that a run takes by the row's own word (R109, R167). -/
def polling : BlockRun where
  state _ := State.reset
  line _ := .row .tx 0b0000000 0
  follows _ := rfl

theorem test_takes_row : polling.takes 0 .txPollNone := by unfold BlockRun.takes polling; decide

/-- R64: an address in a window, and one past its end. -/
theorem test_window : windowOffset 0x40000000 0x40000008 = some 0x08 ∧
    windowOffset 0x40000000 0x40000100 = none := by decide

/-! ## The entry points for the table's words -/

theorem test_decodeTableWord :
    decodeTableWord 16 0x804 = some .rdCtuStatus ∧ decodeTableWord 8 0x42 = some .txHiLast ∧
    decodeTableWord 24 0x5FECFF = some .decBoundary ∧ decodeTableWord 16 0xFFFF = some .encSubst ∧
    decodeTableWord 24 0x600 = none ∧ decodeTableWord 24 0x1000000 = none := by decide

theorem test_withFetchWord : got (step (State.reset.withFetchWord 8 0x4B)) (fun t => (t.wire, t.trace)) =
      some ([], []) ∧
    got (step (State.reset.withFetchWord 24 0x5FFCFF)) (fun t => (t.rdu.boundaryCnt, t.rdu.phase)) =
      some (1, .right) ∧
    refusal (step (State.reset.withFetchWord 24 0x600)) = some (.badWord .reservedWord) := by decide

/-! ## States that meet the hypotheses of the statements, clause by clause -/

theorem meets_ConvStoresOneSample : ∀ i ∈ [0, 2],
    (filling i).ctu.run = true ∧ (filling i).ctu.idx < bufLen (filling i).params ∧
      (filling i).ctu.idx ≠ bufLen (filling i).params - 1 := by decide

theorem meets_ConvCompleteFiresCompletion :
    (filling 3).ctu.run = true ∧ (filling 3).ctu.idx = bufLen (filling 3).params - 1 := by decide

theorem meets_CompletionArmsOtherBuffer :
    (filling 3).params.valid = true ∧ ∃ t, exec (.convComplete 0xFFF) (filling 3) = .next t :=
  ⟨by decide, _, rfl⟩

theorem meets_CaptureNeverStalls :
    (∀ i ∈ [0, 3], (filling i).ctu.idx < bufLen (filling i).params ∧ (filling i).ctu.run = true) ∧
    State.reset.ctu.idx < bufLen State.reset.params ∧ State.reset.ctu.run = false := by decide

theorem meets_TxSelectsAThenB :
    ((sending .idle 0).ctu.txSt = .idle ∧ (sending .idle 0).ctu.ready.a = true) ∧
    (let s := { sending .idle 0 with ctu.ready := ⟨false, true⟩ };
      s.ctu.txSt = .idle ∧ s.ctu.ready.a = false ∧ s.ctu.ready.b = true) ∧
    State.reset.ctu.txSt = .idle ∧ State.reset.ctu.ready.a = false ∧ State.reset.ctu.ready.b = false := by
  decide

theorem meets_TxLoSendsEncodedLowByte : ∀ i ∈ [0, 3],
    (sending .dataLo i).ctu.txSt = .dataLo ∧
      (sending .dataLo i).ctu.uq.length < (sending .dataLo i).params.uartDepth ∧
      (sending .dataLo i).ctu.txI < bufLen (sending .dataLo i).params := by decide

theorem meets_TxHiSendsLatchedHighByte :
    (∀ i ∈ [2, 3], (sending .dataHi i).ctu.txSt = .dataHi ∧
      (sending .dataHi i).ctu.uq.length < (sending .dataHi i).params.uartDepth) ∧
    (sending .dataHi 2).ctu.txI ≠ bufLen (sending .dataHi 2).params - 1 ∧
    (sending .dataHi 3).ctu.txI = bufLen (sending .dataHi 3).params - 1 := by decide

theorem meets_TxTerminatorClearsReady : ∀ st ∈ [TxSt.term0, .term1],
    (sending st 3).ctu.txSt = st ∧ (sending st 3).ctu.uq.length < (sending st 3).params.uartDepth := by
  decide

theorem meets_EncRowsGiveEnc : (0xFFFE : Half) ≠ 0xFFFF := by decide

theorem meets_UartAndLinkKeepOrder :
    ({ onWire two [0xFF] with ctu.uq := [1, 2] }).ctu.uq = 1 :: [2] ∧
    (onWire two [0xFF]).wire = 0xFF :: [] := by decide

theorem meets_LinkTimeoutPushesErr :
    (onWire four []).wire = [] ∧ (onWire lossy [1]).params.linkLossy = true ∧
    (onWire four [1]).wire ≠ [] ∧ (onWire four [1]).params.linkLossy = false := by decide

theorem meets_LinkSkipLosesHead :
    (onWire four [1, 2]).rdu.rxOpen = false ∧ (onWire four [1, 2]).rdu.rxq = [] ∧
    (onWire four [1, 2]).wire = 1 :: [2] := by decide

theorem meets_LossyLinkDamages :
    (onWire lossy [1, 2]).params.linkLossy = true ∧ (onWire lossy [1, 2]).wire = 1 :: [2] ∧
    (onWire four [1]).params.linkLossy = false := by decide

theorem meets_SyncHuntsForTerminator :
    ∀ c ∈ [(SyncSt.hunt, (0xFE : Byte)), (.hunt, 0xFF), (.sawFf, 0xFE)],
      (receiving c.1 [.byte c.2, .err]).rdu.outValid = false ∧
      (receiving c.1 [.byte c.2, .err]).rdu.rxq = .byte c.2 :: [.err] ∧
      (receiving c.1 [.byte c.2, .err]).rdu.sst = c.1 ∧ (c.2 = 0xFF → c.1 = .hunt) := by decide

theorem meets_SyncLockExpectsLeft :
    (receiving .sawFf [.byte 0xFF]).rdu.outValid = false ∧
    (receiving .sawFf [.byte 0xFF]).rdu.rxq = .byte 0xFF :: [] ∧
    (receiving .sawFf [.byte 0xFF]).rdu.sst = .sawFf := by decide

theorem meets_SyncErrIsRecorded : ∀ st ∈ [SyncSt.hunt, .sawFf],
    (receiving st [.err]).rdu.outValid = false ∧ (receiving st [.err]).rdu.rxq = .err :: [] ∧
    ((receiving st [.err]).rdu.sst = .hunt ∨ (receiving st [.err]).rdu.sst = .sawFf) := by decide

/-- Vector E3, rows 3 and 4: `FF 00 FF FF` with `j = 2`, and `FF FF` with `j = 0` and an `FF` after it. -/
theorem meets_SynchronizerFindsFirstTerminator :
    (∃ s : State, s.rdu = { Rdu.atReset with
        rxq := [0xFF, 0x00, 0xFF, 0xFF].map .byte ++ [.err] } ∧
      ∀ k, k < 2 → ¬(([0xFF, 0x00, 0xFF, 0xFF] : List Byte)[k]? = some 0xFF ∧
        ([0xFF, 0x00, 0xFF, 0xFF] : List Byte)[k + 1]? = some 0xFF)) ∧
    (∃ s : State, s.rdu = { Rdu.atReset with rxq := [0xFF, 0xFF].map .byte ++ [.byte 0xFF] }) ∧
    ∃ t, (receiving .hunt ([0xFF, 0xFF].map .byte ++ [.byte 0xFF])).receive 1 = .next t :=
  ⟨⟨receiving .hunt _, rfl, by decide⟩, ⟨receiving .hunt _, rfl⟩, _, rfl⟩

theorem meets_DecFirstLatchesByte :
    (receiving .synced [.byte 0xFF]).rdu.outValid = false ∧
    (receiving .synced [.byte 0xFF]).rdu.rxq = .byte 0xFF :: [] ∧
    (receiving .synced [.byte 0xFF]).rdu.sst = .synced ∧
    (receiving .synced [.byte 0xFF]).rdu.haveLo = false := by decide

theorem meets_DecBoundaryIsSkipped :
    let s := pairing .right 0xFF (.byte 0xFF)
    s.rdu.outValid = false ∧ s.rdu.rxq = .byte 0xFF :: [] ∧ s.rdu.sst = .synced ∧ s.rdu.haveLo = true ∧
      s.rdu.loByte = 0xFF := by decide

theorem meets_DecSampleAlternatesChannels : ∀ ph ∈ [Phase.left, .right],
    let s := pairing ph 0xFE (.byte 0xFF)
    s.rdu.outValid = false ∧ s.rdu.rxq = .byte 0xFF :: [] ∧ s.rdu.sst = .synced ∧ s.rdu.haveLo = true ∧
      ¬(s.rdu.loByte = 0xFF ∧ (0xFF : Byte) = 0xFF) ∧ s.rdu.phase = ph := by decide

theorem meets_DecErrKeepsPhase :
    (∀ s ∈ [receiving .synced [.err], pairing .right 0x64 .err],
      s.rdu.outValid = false ∧ s.rdu.rxq = .err :: [] ∧ s.rdu.sst = .synced) ∧
    (receiving .synced [.err]).rdu.haveLo = false ∧ (pairing .right 0x64 .err).rdu.haveLo = true := by
  decide

theorem meets_SampleRoundTripIsExact : (0 : Half) < 4096 ∧ (4095 : Half) < 4096 := by decide

theorem meets_SinkAppendsFrame :
    ({ receiving .synced [] with rdu.outValid := true }).rdu.outValid = true := by decide

theorem meets_StartRequest :
    (let s := { State.reset with ctu.clkdiv := 1 };
      (1 : Reg).getLsbD 0 = true ∧ s.ctu.run = false ∧ s.ctu.cfgErr = false ∧ s.ctu.clkdiv ≠ 0) ∧
    (State.reset.ctu.run = false ∧ State.reset.ctu.cfgErr = false ∧ State.reset.ctu.clkdiv = 0) ∧
    (0xFFFFFFFE : Reg).getLsbD 0 = false ∧ (filling 0).ctu.run = true ∧
    ({ State.reset with ctu.cfgErr := true }).ctu.cfgErr = true := by decide

theorem meets_ClkdivWrite :
    (State.reset.ctu.run = false ∧ State.reset.ctu.cfgErr = false) ∧ (filling 0).ctu.run = true ∧
    ({ State.reset with ctu.cfgErr := true }).ctu.cfgErr = true := by decide

theorem meets_PowerOnIsBothResets : ∃ t u, exec .resetCtu (sending .dataHi 2) = .next t ∧
    exec .resetRdu t = .next u :=
  ⟨_, _, rfl, rfl⟩

/-- Buffer A complete and being sent, buffer B filling, on a queue with room. -/
def busy (trace : List TraceLine) : State :=
  let s := State.powerOn two
  { s with ctu.run := true, ctu.clkdiv := 16, ctu.act := .b, ctu.ready := ⟨true, false⟩, ctu.cnt := ⟨1, 0⟩,
           ctu.intr := ⟨true, false⟩, ctu.txSt := .dataLo, trace := trace,
           ctu.mem := [(0, 0xFF), (1, 0x0F), (2, 0x00), (3, 0x08)] }

theorem busy_wellBehaved (l : List TraceLine) : (busy l).WellBehaved :=
  ⟨rfl, (by decide : 0 < 2 ^ 1 ∧ 0 < 2 ^ 1), fun _ => (by decide : false = false ∧ (16 : Half) ≠ 0),
    fun _ => rfl, fun _ => ⟨rfl, rfl, rfl, rfl, rfl⟩, (by decide : 0 ≤ 2), fun h => nomatch h⟩

theorem busy_buffersSound (l : List TraceLine) : (busy l).BuffersSound where
  canonical := rfl
  readyWritten x i hx hi := by
    have hi : i < 2 := hi
    cases x
    · interval_cases i <;> rfl
    · exact nomatch hx
  fillWritten i hi := absurd hi (Nat.not_lt_zero i)
  samples x i hi hw := by
    have hi : i < 2 := hi
    cases x
    · interval_cases i
      · exact (by decide : (busy []).readCell .a 0 < 4096)
      · exact (by decide : (busy []).readCell .a 1 < 4096)
    · interval_cases i <;> exact nomatch hw

theorem busy_roundRobin (l : List TraceLine) : (busy l).RoundRobin :=
  ⟨rfl, rfl⟩

theorem meets_StepKeepsWellBehaved :
    (busy [.agent .tx]).WellBehaved ∧ ∃ t, step (busy [.agent .tx]) = .next t :=
  ⟨busy_wellBehaved _, _, rfl⟩

theorem meets_StepKeepsBuffersSound : (busy [.agent (.conv 7)]).WellBehaved ∧
    (busy [.agent (.conv 7)]).BuffersSound ∧ ∃ t, step (busy [.agent (.conv 7)]) = .next t :=
  ⟨busy_wellBehaved _, busy_buffersSound _, _, rfl⟩

theorem meets_StepKeepsRoundRobin : (busy [.agent (.conv 7)]).WellBehaved ∧
    (busy [.agent (.conv 7)]).RoundRobin ∧ ∃ t, step (busy [.agent (.conv 7)]) = .next t :=
  ⟨busy_wellBehaved _, busy_roundRobin _, _, rfl⟩

theorem meets_ResetIsGoodState : four.valid = true ∧ (⟨15, 0, 1, true⟩ : Params).valid = true := by decide

theorem meets_WellBehavedStepNeverFaults : (busy []).WellBehaved :=
  busy_wellBehaved _

/-- Start, one fill of A, and the transmitter's selection. -/
def toFirstByte : List TraceLine :=
  Trace.start 16 ++ [.agent (.conv 4095), .agent (.conv 0), .agent .tx]

theorem meets_SubstitutionNeverFires : ∃ s t, s.reachable ∧ exec .txLo s = .next t := by
  have h : ∃ s t, (State.powerOn two).runLines toFirstByte = .next s ∧ exec .txLo s = .next t :=
    ⟨_, _, rfl, rfl⟩
  obtain ⟨s, t, hs, ht⟩ := h
  exact ⟨s, t, ⟨two, by decide, toFirstByte, hs⟩, ht⟩

theorem meets_DecodeEncodeRoundTrip : ∀ i ∈ [Instr.encPass 0xFFFE, .buserrAlignOdd .rdu true 0xFF,
    .rdReserved .ctu 0x24, .linkTimeoutLossy, .conv 0xFFF], i.wellFormed = true := by decide

theorem meets_EveryBusWordSelectsOneRule : (0xFFF : DispatchBits) < 4096 := by decide

theorem meets_ReservedWordsRefused :
    ((0x7D : DispatchBits) < 128 ∧ 5 ≤ (0x7D : DispatchBits).extractLsb' 0 3) ∧
    ((0x7FFFFF : DispatchBits) < 0x800000 ∧ (0x7FFFFF : DispatchBits).extractLsb' 9 2 = 3) ∧
    ((0x46 : DispatchBits) < 256 ∧ 6 ≤ (0x46 : DispatchBits).extractLsb' 0 3) ∧
    (0x88 : DispatchBits) < 256 ∧ (0x88 : DispatchBits).getLsbD 7 = true := by decide

theorem meets_DispatchedRowIsEnabled :
    (busy []).ctu.idx < bufLen (busy []).params ∧ (busy []).ctu.txI < bufLen (busy []).params ∧
    decodeRequest (choiceRequest .tx (busy [])) = .ok .txLo := by decide

theorem meets_EnabledStepIsDispatched :
    (∃ t, exec .txLo (busy []) = .next t) ∧ (encode .txLo).fmt = .tx ∧
    (∃ t, exec .linkTimeoutLossy (onWire lossy [1]) = .next t) ∧ (encode .linkTimeoutLossy).fmt = .link ∧
    (onWire lossy [1]).wire ≠ [] :=
  ⟨⟨_, rfl⟩, rfl, ⟨_, rfl⟩, rfl, by decide⟩

theorem meets_HeldAgentsHaveNoStep :
    ((encode .decFirst).fmt = .rx ∧ State.reset.rdu.rxq = []) ∧
    ((encode .txTerm1).fmt = .tx ∧ (sending .term1 3).ctu.txSt ≠ .idle ∧
      (let s := { sending .term1 3 with ctu.uq := [1] };
        s.params.uartDepth ≤ s.ctu.uq.length)) ∧
    (encode (.conv 0)).fmt = .cap ∧ State.reset.ctu.run = false := by decide

theorem meets_StepRunsDecodedLine :
    (busy [.agent .tx]).trace = .agent .tx :: [] ∧
    decodeRequest (fetchLine (.agent .tx) (busy [.agent .tx])) = .ok .txLo ∧
    decodeRequest (fetchLine (.agent .sink) (busy [.agent .sink])) = .bad .noRow := by decide

theorem meets_EmptyTraceTakesFreeChoice : (busy []).WellBehaved ∧ (busy []).trace = [] :=
  ⟨busy_wellBehaved _, rfl⟩

theorem meets_SyncedUntilRduReset : Instr.decFirst ≠ .resetRdu ∧
    (∃ t, exec .decFirst (receiving .synced [.byte 1]) = .next t) ∧
    (receiving .synced [.byte 1]).rdu.sst = .synced :=
  ⟨by decide, ⟨_, rfl⟩, rfl⟩

theorem meets_ReadyFlagWriters :
    (∃ t, exec (.convComplete 1) (filling 3) = .next t ∧ (filling 3).ctu.ready.get .a = false ∧
      t.ctu.ready.get .a = true) ∧
    ∃ t, exec .txTerm1 (sending .term1 3) = .next t ∧ (sending .term1 3).ctu.ready.get .a = true ∧
      t.ctu.ready.get .a = false :=
  ⟨⟨_, rfl, rfl, rfl⟩, _, rfl, rfl, rfl⟩

theorem meets_PhaseWriters : ∃ t, exec .decLeft (pairing .left 0 (.byte 8)) = .next t ∧
    t.rdu.phase ≠ (pairing .left 0 (.byte 8)).rdu.phase :=
  ⟨_, rfl, by decide⟩

theorem meets_RunAndCfgErrLatch : (∃ t, exec (.wrCtuCtrl 0) (filling 0) = .next t) ∧
    (filling 0).ctu.run = true ∧ Instr.wrCtuCtrl 0 ≠ .resetCtu ∧
    (∃ t, exec (.conv 0) { filling 0 with ctu.cfgErr := true } = .next t) ∧
    ∀ d, Instr.conv 0 ≠ .wrCtuCtrl d :=
  ⟨⟨_, rfl⟩, rfl, by decide, ⟨_, rfl⟩, fun _ h => nomatch h⟩

theorem meets_PcmOutIsAppendOnly : ∃ t, step (busy [.agent .tx]) = .next t :=
  ⟨_, rfl⟩

theorem meets_NoFeedbackToCtu :
    let s := filling 0
    let s' := { s with wire := [1], rdu.sst := .synced }
    s.params = s'.params ∧ s.ctu = s'.ctu ∧ s.ctuBus = s'.ctuBus ∧
      (∃ t, exec (.conv 5) s = .next t) ∧ ∃ t', exec (.conv 5) s' = .next t' :=
  ⟨rfl, rfl, rfl, ⟨_, rfl⟩, _, rfl⟩

theorem meets_TransmitterSendsPacket :
    ∀ c ∈ [(Buf.a, (⟨true, true⟩ : PerBuf Bool)), (.b, ⟨false, true⟩)],
      let s := { sending .idle 0 with ctu.ready := c.2 }
      s.params.valid = true ∧ s.ctu.txSt = .idle ∧ s.ctu.uq = [] ∧ s.ctu.ready.get c.1 = true ∧
        (c.1 = .b → s.ctu.ready.a = false) := by decide

end Sys2Proof.Tests
end

section
/-!
PROOFS. What the outcome of an instruction can be, said once for every row: what it leaves of the CTU's side
of the state, and when it faults. From it, that nothing flows back to the CTU (R2, R84) and that a step with
no trace line left takes the scheduler's free choice (R3, R71).
-/

namespace Sys2Proof.Machine

/-! ### Outcomes -/

/-- `o` is a next state with `P`, or a refusal; it is a fault only if `Q`. -/
def Yields (P : State → Prop) (Q : Prop) : Outcome → Prop
  | .next t => P t
  | .fault _ => Q
  | .refused _ => True

theorem Yields.next {P : State → Prop} {Q : Prop} {t : State} (h : P t) : Yields P Q (.next t) := h

theorem Yields.of_next {P : State → Prop} {Q : Prop} {o : Outcome} {t : State} (h : Yields P Q o)
    (ho : o = .next t) : P t := by
  subst ho; exact h

theorem Yields.of_fault {P : State → Prop} {Q : Prop} {o : Outcome} {f : Fault} (h : Yields P Q o)
    (ho : o = .fault f) : Q := by
  subst ho; exact h

theorem Yields.mono {P P' : State → Prop} {Q Q' : Prop} {o : Outcome} (h : Yields P Q o)
    (hP : ∀ t, P t → P' t) (hQ : Q → Q') : Yields P' Q' o := by
  cases o with
  | next t => exact hP t h
  | fault f => exact hQ h
  | refused r => trivial

section Guards

variable {P : State → Prop} {Q : Prop} {s : State} {o : Outcome} {k : Byte → Outcome}

theorem Yields.ite {g : Prop} [Decidable g] {o' : Outcome} (h : g → Yields P Q o)
    (h' : ¬g → Yields P Q o') : Yields P Q (if g then o else o') := by
  split
  · next hg => exact h hg
  · next hg => exact h' hg

theorem Yields.onlyWhen {g : Prop} [Decidable g] (h : Yields P Q o) : Yields P Q (onlyWhen g o) :=
  .ite (fun _ => h) (fun _ => trivial)

theorem Yields.onByte (h : ∀ b, Yields P Q (k b)) : Yields P Q (onByte s k) := by
  unfold Machine.onByte
  split
  · exact h _
  · trivial

theorem Yields.onErr (h : Yields P Q o) : Yields P Q (onErr s o) := by
  unfold Machine.onErr
  split
  · exact h
  · trivial

theorem Yields.onPair (h : ∀ b, Yields P Q (k b)) : Yields P Q (onPair s k) :=
  .onByte fun b => .onlyWhen (h b)

end Guards

/-! ### The rows that address a cell -/

/-- An index of the CTU lies outside the arenas, which R46 (a) excludes. -/
def State.indexOutside (s : State) : Prop :=
  bufLen s.params ≤ s.ctu.idx ∨ bufLen s.params ≤ s.ctu.txI

theorem State.WellBehaved.not_indexOutside {s : State} (h : s.WellBehaved) : ¬s.indexOutside := by
  obtain ⟨hidx, htxI⟩ := h.indices
  rintro (h | h) <;> omega

section Cells

variable {P : State → Prop} {Q : Prop} {s : State}

theorem State.captureSample?_of_ge (v : BitVec 12) (h : bufLen s.params ≤ s.ctu.idx) :
    s.captureSample? v = none := by
  simp [State.captureSample?, State.bufWrite?, Nat.not_lt.2 h]

theorem State.bufRead?_of_ge {x : Buf} {i : Nat} (h : bufLen s.params ≤ i) : s.bufRead? x i = none :=
  if_neg (Nat.not_lt.2 h)

/-- The state after the part that both capture steps have. -/
def State.captured (s : State) (v : BitVec 12) : State :=
  { s with
    ctu.mem := Memory.writeHalf s.ctu.mem (cellAddr s.params s.ctu.act s.ctu.idx) (sampleWord v)
    ctu.rrCh := otherChannel s.ctu.rrCh }

theorem execConv_yields {v : BitVec 12} (hQ : s.indexOutside → Q)
    (h : P { s.captured v with ctu.idx := s.ctu.idx + 1 }) : Yields P Q (execConv v s) := by
  refine .onlyWhen ?_
  rcases Nat.lt_or_ge s.ctu.idx (bufLen s.params) with hlt | hge
  · rw [State.captureSample?_of_lt v hlt]; exact h
  · rw [State.captureSample?_of_ge v hge]; exact hQ (.inl hge)

theorem execConvComplete_yields {v : BitVec 12} (hQ : s.indexOutside → Q)
    (h : P { (s.captured v).complete s.ctu.act with ctu.act := otherBuf s.ctu.act, ctu.idx := 0 }) :
    Yields P Q (execConvComplete v s) := by
  refine .onlyWhen ?_
  rcases Nat.lt_or_ge s.ctu.idx (bufLen s.params) with hlt | hge
  · rw [State.captureSample?_of_lt v hlt]; exact h
  · rw [State.captureSample?_of_ge v hge]; exact hQ (.inl hge)

/-- The state after TX_LO has read the word `w`. -/
def State.sentLow (s : State) (w : Half) : State :=
  { s.pushUq (lo8 (encWord s.params w)) with ctu.txWord := encWord s.params w, ctu.txSt := .dataHi }

theorem execTxLo_yields (hQ : s.indexOutside → Q)
    (h : P (s.sentLow (s.readCell s.ctu.txBuf s.ctu.txI))) : Yields P Q (execTxLo s) := by
  refine .onlyWhen ?_
  rcases Nat.lt_or_ge s.ctu.txI (bufLen s.params) with hlt | hge
  · rw [State.bufRead?_of_lt hlt]; exact h
  · rw [State.bufRead?_of_ge hge]; exact hQ (.inr hge)

theorem execUartShift_yields
    (h : ∀ x rest, s.ctu.uq = x :: rest → P { s with wire := s.wire ++ [x], ctu.uq := rest }) :
    Yields P Q (execUartShift s) := by
  unfold execUartShift
  split
  · next x rest hq => exact h x rest hq
  · trivial

end Cells

/-! ### The CTU's side of the state -/

/-- The two states have the same parameters, CTU and response to the CTU's bus master. -/
structure State.CtuAgrees (s s' : State) : Prop where
  params : s.params = s'.params
  ctu : s.ctu = s'.ctu
  ctuBus : s.ctuBus = s'.ctuBus

theorem State.CtuAgrees.symm {s s' : State} (h : s.CtuAgrees s') : s'.CtuAgrees s :=
  ⟨h.params.symm, h.ctu.symm, h.ctuBus.symm⟩

theorem State.CtuAgrees.trans {s t u : State} (h : s.CtuAgrees t) (h' : t.CtuAgrees u) : s.CtuAgrees u :=
  ⟨h.params.trans h'.params, h.ctu.trans h'.ctu, h.ctuBus.trans h'.ctuBus⟩

theorem State.CtuAgrees.refl (s : State) : s.CtuAgrees s :=
  ⟨rfl, rfl, rfl⟩

/-- A state that agrees with `s` on the CTU's side is `s` with the link, the RDU and what only they and the
model's bookkeeping hold replaced. -/
theorem State.CtuAgrees.eq_replace {s s' : State} (h : s.CtuAgrees s') :
    s' = { s with wire := s'.wire, rdu := s'.rdu, pcmOut := s'.pcmOut, rduBus := s'.rduBus,
                  encOut := s'.encOut, trace := s'.trace, tick := s'.tick } := by
  obtain ⟨hp, hc, hb⟩ := h
  rw [hp, hc, hb]

/-- The rows that neither read nor write the CTU and do not answer its bus master: the encode function's,
the link's, the receiver's, the sink's, and the RDU's registers and reset. -/
def offCtu : Instr → Bool
  | .encSubst | .encPass _
  | .linkDeliver | .linkTimeout | .linkTimeoutLossy | .linkSkip | .linkDrop | .linkCorrupt _ | .linkInsert _
  | .syncHuntFf | .syncHuntOther | .syncLock | .syncResume | .syncErrEvent
  | .decFirst | .decErrEmpty | .decBoundary | .decLeft | .decRight | .decErrShort | .sinkAccept
  | .rdRduRstatus | .wrRduRstatus _ | .rdRduSyncOffset | .wrRduSyncOffset _
  | .rdRduSyncErrCnt | .wrRduSyncErrCnt _ | .rdRduRdErrCnt | .wrRduRdErrCnt _
  | .rdRduBoundaryCnt | .wrRduBoundaryCnt _ | .rdRduFrameCnt | .wrRduFrameCnt _
  | .rdRduOutFrame | .wrRduOutFrame _ | .rdRduLeftHold | .wrRduLeftHold _ | .resetRdu => true
  | _ => false

/-- Such a row leaves the CTU's side as it is, and never faults (R2, R84). -/
theorem exec_offCtu {i : Instr} (hi : offCtu i = true) (s : State) :
    Yields s.CtuAgrees False (exec i s) := by
  cases i with
  | encSubst | encPass w | resetRdu
  | rdRduRstatus | rdRduSyncOffset | rdRduSyncErrCnt | rdRduRdErrCnt | rdRduBoundaryCnt | rdRduFrameCnt
  | rdRduOutFrame | rdRduLeftHold
  | wrRduRstatus d | wrRduSyncOffset d | wrRduSyncErrCnt d | wrRduRdErrCnt d | wrRduBoundaryCnt d
  | wrRduFrameCnt d | wrRduOutFrame d | wrRduLeftHold d =>
    exact .next ⟨rfl, rfl, rfl⟩
  | linkDeliver =>
    simp only [exec, execLinkDeliver]
    split
    · exact .next ⟨rfl, rfl, rfl⟩
    · trivial
  | linkTimeout | linkTimeoutLossy | linkSkip | linkDrop | linkCorrupt c | linkInsert c | sinkAccept =>
    exact .onlyWhen (.next ⟨rfl, rfl, rfl⟩)
  | syncHuntFf | syncHuntOther | syncLock | syncResume | decFirst =>
    exact .onByte fun _ => .onlyWhen (.next ⟨rfl, rfl, rfl⟩)
  | decBoundary | decLeft | decRight =>
    exact .onPair fun _ => .onlyWhen (.next ⟨rfl, rfl, rfl⟩)
  | syncErrEvent | decErrEmpty | decErrShort =>
    exact .onErr (.onlyWhen (.next ⟨rfl, rfl, rfl⟩))
  | _ => cases hi

/-- `o` and `o'` are alike for the CTU: the states they lead to, if both do, agree on its side. A fault of
either means `Q`. -/
def CtuAlike (Q : Prop) (o o' : Outcome) : Prop :=
  Yields (fun t => Yields t.CtuAgrees Q o') Q o

theorem CtuAlike.next {Q : Prop} {t t' : State} (h : t.CtuAgrees t') : CtuAlike Q (.next t) (.next t') := h

theorem CtuAlike.onlyWhen {Q : Prop} {g g' : Prop} [Decidable g] [Decidable g'] {o o' : Outcome}
    (h : CtuAlike Q o o') : CtuAlike Q (onlyWhen g o) (onlyWhen g' o') :=
  Yields.onlyWhen (h.mono (fun _ ht => ht.onlyWhen) id)

theorem CtuAlike.ite {Q : Prop} {g : Prop} [Decidable g] {o o' u u' : Outcome}
    (h : CtuAlike Q o o') (h' : CtuAlike Q u u') :
    CtuAlike Q (if g then o else u) (if g then o' else u') := by
  split
  · exact h
  · exact h'

/-- Two steps that each leave the CTU's side as it is, from states that agree on it. -/
theorem CtuAlike.of_keeps {Q : Prop} {s s' : State} {o o' : Outcome} (h : s.CtuAgrees s')
    (ho : Yields s.CtuAgrees False o) (ho' : Yields s'.CtuAgrees False o') : CtuAlike Q o o' :=
  ho.mono (fun _ ht => ho'.mono (fun _ ht' => ht.symm.trans (h.trans ht')) False.elim) False.elim

/-- What an instruction does to the CTU's side depends on that side alone: the guards and the new values of
the remaining rows read the parameters and the CTU, so with the rest of the state replaced they are the
same. Only a row that addresses a cell can fault, and only for an index outside the arenas. -/
theorem exec_ctuAlike (i : Instr) {s s' : State} (h : s.CtuAgrees s') :
    CtuAlike s.indexOutside (exec i s) (exec i s') := by
  by_cases hi : offCtu i = true
  · exact .of_keeps h (exec_offCtu hi s) (exec_offCtu hi s')
  rw [h.eq_replace]
  cases i with
  | conv v => exact execConv_yields id (execConv_yields id ⟨rfl, rfl, rfl⟩)
  | convComplete v => exact execConvComplete_yields id (execConvComplete_yields id ⟨rfl, rfl, rfl⟩)
  | txLo => exact execTxLo_yields id (execTxLo_yields id ⟨rfl, rfl, rfl⟩)
  | txSelectA | txSelectB | txPollNone | txTerm0 | txTerm1 =>
    exact .onlyWhen (.next ⟨rfl, rfl, rfl⟩)
  | txHi | txHiLast => exact .onlyWhen (.onlyWhen (.next ⟨rfl, rfl, rfl⟩))
  | uartShift =>
    refine execUartShift_yields fun x rest hq => execUartShift_yields fun x' rest' hq' => ?_
    obtain ⟨-, rfl⟩ := List.cons.inj (hq.symm.trans hq')
    exact ⟨rfl, rfl, rfl⟩
  | buserrSizeNarrow half unit we off | buserrSizeNone unit we off | buserrAlignOdd unit we off
  | buserrAlignHalf unit we off | rdReserved unit off | wrReserved unit off d =>
    cases unit <;> exact .next ⟨rfl, rfl, rfl⟩
  | rdCtuCtrl | rdCtuStatus | rdCtuClkdiv | rdCtuCntA | rdCtuCntB | rdCtuIntr | rdCtuInte | rdCtuInts
  | rdCtuConfig
  | wrCtuStatus d | wrCtuCntA d | wrCtuCntB d | wrCtuIntr d | wrCtuInte d | wrCtuInts d | wrCtuConfig d
  | resetCtu =>
    exact .next ⟨rfl, rfl, rfl⟩
  | wrCtuCtrl d =>
    exact .ite (.ite (.next ⟨rfl, rfl, rfl⟩) (.next ⟨rfl, rfl, rfl⟩)) (.next ⟨rfl, rfl, rfl⟩)
  | wrCtuClkdiv d => exact .ite (.next ⟨rfl, rfl, rfl⟩) (.next ⟨rfl, rfl, rfl⟩)
  | _ => exact absurd rfl hi

/-! ### No trace line left -/

/-- An instruction faults only for an index outside the arenas. -/
theorem exec_eq_fault {i : Instr} {s : State} {f : Fault} (h : exec i s = .fault f) : s.indexOutside :=
  (exec_ctuAlike i (.refl s)).of_fault h

theorem State.runLine_eq_fault {s : State} {line : TraceLine} {f : Fault} (h : s.runLine line = .fault f) :
    s.indexOutside := by
  unfold State.runLine at h
  split at h
  · exact exec_eq_fault h
  · cases h

section FreeChoice

variable {s : State} (htr : s.trace = [])
include htr

/-- With no line left, a free choice that is a step is the step. -/
theorem step_of_choice_next {t : State}
    (h : State.runLine { s with tick := s.tick + 1 } (Config.schedule s.tick) = .next t) :
    step s = .next t := by
  unfold step State.advance
  split
  · next line rest hl => exact nomatch htr.symm.trans hl
  · simp only [h]

/-- With no line left, a free choice that is refused is passed over. -/
theorem step_of_choice_refused {r : Refusal}
    (h : State.runLine { s with tick := s.tick + 1 } (Config.schedule s.tick) = .refused r) :
    step s = .next { s with tick := s.tick + 1 } := by
  unfold step State.advance
  split
  · next line rest hl => exact nomatch htr.symm.trans hl
  · simp only [h]

end FreeChoice

end Sys2Proof.Machine

namespace Sys2Proof.Proofs

open Sys2Proof.Machine

/-- Settles O52: the cases are those of the free choice's outcome, and a fault is none of them since the
indices of a well-behaved state lie in the arenas. -/
theorem emptyTraceTakesFreeChoice : Obligations.EmptyTraceTakesFreeChoice := by
  intro s hs htr
  cases ho : State.runLine { s with tick := s.tick + 1 } (Config.schedule s.tick) with
  | next t => exact .inl ⟨t, rfl, step_of_choice_next htr ho⟩
  | fault f => exact absurd (State.runLine_eq_fault ho) hs.not_indexOutside
  | refused r => exact .inr ⟨r, rfl, step_of_choice_refused htr ho⟩

/-- Settles O59, from `exec_ctuAlike`. -/
theorem noFeedbackToCtu : Obligations.NoFeedbackToCtu := by
  intro i s s' t t' hp hc hb ht ht'
  have halike : CtuAlike s.indexOutside (exec i s) (exec i s') := exec_ctuAlike i ⟨hp, hc, hb⟩
  have hagree : t.CtuAgrees t' := (halike.of_next ht).of_next ht'
  exact ⟨hagree.params, hagree.ctu, hagree.ctuBus⟩

end Sys2Proof.Proofs
end

section
/-!
PROOFS. What an instruction does to the CTU, said once for every row with its guard, and what it does to the
RDU and to the delivered bytes. From it, that every step keeps the invariants of R46 and of
the buffer arenas (R27, R90) and what has been delivered (R44), and which rows write the ready flags, `RUN`
and `CFG_ERR`.
-/

namespace Sys2Proof.Machine

/-! ### Steps, from instructions -/

/-- What a step does: it changes the trace and the count of choices, and then runs one instruction or none. -/
theorem step_next_exec {s t : State} (h : step s = .next t) :
    ∃ tr n, t = { s with trace := tr, tick := n } ∨
      ∃ i, exec i { s with trace := tr, tick := n } = .next t := by
  rcases step_eq_next h with ⟨line, rest, -, hr⟩ | ⟨-, hr⟩ | ⟨-, rfl⟩
  · obtain ⟨i, -, hi⟩ := State.runLine_eq_next.1 hr
    exact ⟨rest, s.tick, .inr ⟨i, hi⟩⟩
  · obtain ⟨i, -, hi⟩ := State.runLine_eq_next.1 hr
    exact ⟨s.trace, s.tick + 1, .inr ⟨i, hi⟩⟩
  · exact ⟨s.trace, s.tick + 1, .inl rfl⟩

/-- What every instruction keeps, and what does not speak of the trace and the count of choices, every step
keeps. -/
theorem step_keeps {I : State → Prop}
    (hbook : ∀ s tr n, I s → I { s with trace := tr, tick := n })
    (hexec : ∀ i s t, I s → exec i s = .next t → I t)
    {s t : State} (hs : I s) (h : step s = .next t) : I t := by
  obtain ⟨tr, n, rfl | ⟨i, hi⟩⟩ := step_next_exec h
  · exact hbook s tr n hs
  · exact hexec i _ t (hbook s tr n hs) hi

/-- A step faults only for an index outside the arenas. -/
theorem step_eq_fault {s : State} {f : Fault} (h : step s = .fault f) : s.indexOutside := by
  unfold step State.advance at h
  split at h
  · have hout := State.runLine_eq_fault h; exact hout
  · split at h
    · cases h
    · next hr => have hout := State.runLine_eq_fault hr; exact hout
    · cases h

/-! ### Outcomes, with what the guard says -/

section Guards

variable {P : State → Prop} {Q : Prop} {s : State} {o : Outcome}

theorem Yields.onlyWhen_guarded {g : Prop} [Decidable g] (h : g → Yields P Q o) :
    Yields P Q (Machine.onlyWhen g o) :=
  .ite h fun _ => trivial

/-- A transmitter step that sends a byte starts with room in `UQ` (R158). -/
theorem Yields.whenSending {st : TxSt}
    (h : s.ctu.txSt = st → s.ctu.uq.length < s.params.uartDepth → Yields P Q o) :
    Yields P Q (Machine.whenSending st s o) :=
  .onlyWhen_guarded fun ⟨hst, hq⟩ => h hst (State.uqFull_eq_false.1 hq)

theorem execConv_yields_guarded {v : BitVec 12}
    (h : s.ctu.run = true → s.ctu.idx + 1 < bufLen s.params →
      P { s.captured v with ctu.idx := s.ctu.idx + 1 }) : Yields P True (execConv v s) := by
  refine .onlyWhen_guarded fun ⟨hrun, hlast⟩ => ?_
  split
  · next u hu =>
    obtain ⟨hlt, rfl⟩ := State.captureSample?_eq_some.1 hu
    have hne := State.capLast_eq_false.1 hlast
    exact h hrun (by omega)
  · trivial

theorem execConvComplete_yields_guarded {v : BitVec 12}
    (h : s.ctu.run = true → s.ctu.idx + 1 = bufLen s.params →
      P { (s.captured v).complete s.ctu.act with ctu.act := otherBuf s.ctu.act, ctu.idx := 0 }) :
    Yields P True (execConvComplete v s) := by
  refine .onlyWhen_guarded fun ⟨hrun, hlast⟩ => ?_
  split
  · next u hu =>
    obtain ⟨hlt, rfl⟩ := State.captureSample?_eq_some.1 hu
    have heq := State.capLast_eq_true.1 hlast
    exact h hrun (by omega)
  · trivial

theorem execTxLo_yields_guarded
    (h : s.ctu.txSt = .dataLo → s.ctu.uq.length < s.params.uartDepth →
      P (s.sentLow (s.readCell s.ctu.txBuf s.ctu.txI))) : Yields P True (execTxLo s) := by
  refine .whenSending fun hst hq => ?_
  split
  · next w hw =>
    obtain ⟨-, rfl⟩ := State.bufRead?_eq_some.1 hw
    exact h hst hq
  · trivial

end Guards

/-! ### What an instruction does to the CTU -/

/-- Instruction `i` leads from the CTU `c` of a block with the parameters `p` to the CTU given last. A row
that leaves the CTU as it is, or does so in this state, is `keep`, and `txSelect` is the move of both
selections; which word TX_LO reads is left open. -/
inductive CtuMove (p : Params) (c : Ctu) : Instr → Ctu → Prop
  | keep (i : Instr) : CtuMove p c i c
  | conv (v : BitVec 12) (hrun : c.run = true) (hidx : c.idx + 1 < bufLen p) :
    CtuMove p c (.conv v) { c with
      mem := Memory.writeHalf c.mem (cellAddr p c.act c.idx) (sampleWord v)
      rrCh := otherChannel c.rrCh
      idx := c.idx + 1 }
  | convComplete (v : BitVec 12) (hrun : c.run = true) (hidx : c.idx + 1 = bufLen p) :
    CtuMove p c (.convComplete v) { c with
      mem := Memory.writeHalf c.mem (cellAddr p c.act c.idx) (sampleWord v)
      rrCh := otherChannel c.rrCh
      ready := c.ready.set c.act true
      cnt := c.cnt.set c.act (c.cnt.get c.act + 1)
      intr := c.intr.set c.act true
      act := otherBuf c.act
      idx := 0 }
  | txSelect (i : Instr) (x : Buf) (hst : c.txSt = .idle) (hready : c.ready.get x = true) :
    CtuMove p c i { c with txBuf := x, txI := 0, txSt := .dataLo }
  | txLo (w : Half) (hst : c.txSt = .dataLo) (hroom : c.uq.length < p.uartDepth) :
    CtuMove p c .txLo { c with uq := c.uq ++ [lo8 w], txWord := w, txSt := .dataHi }
  | txHi (hst : c.txSt = .dataHi) (hroom : c.uq.length < p.uartDepth) (hlast : c.txI ≠ bufLen p - 1) :
    CtuMove p c .txHi { c with uq := c.uq ++ [hi8 c.txWord], txI := c.txI + 1, txSt := .dataLo }
  | txHiLast (hst : c.txSt = .dataHi) (hroom : c.uq.length < p.uartDepth) (hlast : c.txI = bufLen p - 1) :
    CtuMove p c .txHiLast { c with uq := c.uq ++ [hi8 c.txWord], txSt := .term0 }
  | txTerm0 (hst : c.txSt = .term0) (hroom : c.uq.length < p.uartDepth) :
    CtuMove p c .txTerm0 { c with uq := c.uq ++ [0xFF], txSt := .term1 }
  | txTerm1 (hst : c.txSt = .term1) (hroom : c.uq.length < p.uartDepth) :
    CtuMove p c .txTerm1 { c with
      uq := c.uq ++ [0xFF], ready := c.ready.set c.txBuf false, txSt := .idle }
  | uartShift (x : Byte) (rest : List Byte) (huq : c.uq = x :: rest) :
    CtuMove p c .uartShift { c with uq := rest }
  | start (d : Reg) (hrun : c.run = false) (herr : c.cfgErr = false) (hdiv : c.clkdiv ≠ 0) :
    CtuMove p c (.wrCtuCtrl d) { c with run := true }
  | misconfigured (d : Reg) (hrun : c.run = false) (hdiv : c.clkdiv = 0) :
    CtuMove p c (.wrCtuCtrl d) { c with cfgErr := true }
  | setClkdiv (d : Reg) (hrun : c.run = false) :
    CtuMove p c (.wrCtuClkdiv d) { c with clkdiv := d.setWidth 16 }
  | ackIntr (d : Reg) :
    CtuMove p c (.wrCtuIntr d) { c with
      intr := ⟨c.intr.a && !d.getLsbD 0, c.intr.b && !d.getLsbD 1⟩ }
  | setInte (d : Reg) :
    CtuMove p c (.wrCtuInte d) { c with inte := ⟨d.getLsbD 0, d.getLsbD 1⟩ }
  | reset : CtuMove p c .resetCtu (Ctu.atReset (c.bufEpoch + 1))

/-- Instruction `i` leads from `s` to `t` as far as the CTU and the parameters go. -/
structure State.CtuMoves (s : State) (i : Instr) (t : State) : Prop where
  params : t.params = s.params
  move : CtuMove s.params s.ctu i t.ctu

/-- What any instruction does to the CTU is a move, and no instruction writes a parameter. -/
theorem exec_ctuMoves (i : Instr) (s : State) : Yields (s.CtuMoves i) True (exec i s) := by
  by_cases hi : offCtu i = true
  · exact (exec_offCtu hi s).mono (fun t ht => ⟨ht.params.symm, ht.ctu ▸ .keep i⟩) fun _ => trivial
  cases i with
  | conv v => exact execConv_yields_guarded fun hrun hidx => ⟨rfl, .conv v hrun hidx⟩
  | convComplete v =>
    exact execConvComplete_yields_guarded fun hrun hidx => ⟨rfl, .convComplete v hrun hidx⟩
  | txSelectA => exact .onlyWhen_guarded fun ⟨hst, ha⟩ => .next ⟨rfl, .txSelect _ .a hst ha⟩
  | txSelectB => exact .onlyWhen_guarded fun ⟨hst, _, hb⟩ => .next ⟨rfl, .txSelect _ .b hst hb⟩
  | txPollNone => exact .onlyWhen (.next ⟨rfl, .keep _⟩)
  | txLo => exact execTxLo_yields_guarded fun hst hroom => ⟨rfl, .txLo _ hst hroom⟩
  | txHi =>
    exact .whenSending fun hst hroom => .onlyWhen_guarded fun hlast =>
      .next ⟨rfl, .txHi hst hroom (State.txLast_eq_false.1 hlast)⟩
  | txHiLast =>
    exact .whenSending fun hst hroom => .onlyWhen_guarded fun hlast =>
      .next ⟨rfl, .txHiLast hst hroom (State.txLast_eq_true.1 hlast)⟩
  | txTerm0 => exact .whenSending fun hst hroom => .next ⟨rfl, .txTerm0 hst hroom⟩
  | txTerm1 => exact .whenSending fun hst hroom => .next ⟨rfl, .txTerm1 hst hroom⟩
  | uartShift => exact execUartShift_yields fun x rest huq => ⟨rfl, .uartShift x rest huq⟩
  | buserrSizeNarrow half unit we off | buserrSizeNone unit we off | buserrAlignOdd unit we off
  | buserrAlignHalf unit we off | rdReserved unit off | wrReserved unit off d =>
    cases unit <;> exact .next ⟨rfl, .keep _⟩
  | rdCtuCtrl | rdCtuStatus | rdCtuClkdiv | rdCtuCntA | rdCtuCntB | rdCtuIntr | rdCtuInte | rdCtuInts
  | rdCtuConfig
  | wrCtuStatus d | wrCtuCntA d | wrCtuCntB d | wrCtuInts d | wrCtuConfig d =>
    exact .next ⟨rfl, .keep _⟩
  | wrCtuCtrl d =>
    refine .ite (fun ⟨_, hrun, herr⟩ => ?_) fun _ => .next ⟨rfl, .keep _⟩
    exact .ite (fun hdiv => .next ⟨rfl, .misconfigured d hrun hdiv⟩)
      fun hdiv => .next ⟨rfl, .start d hrun herr hdiv⟩
  | wrCtuClkdiv d =>
    exact .ite (fun ⟨hrun, _⟩ => .next ⟨rfl, .setClkdiv d hrun⟩) fun _ => .next ⟨rfl, .keep _⟩
  | wrCtuIntr d => exact .next ⟨rfl, .ackIntr d⟩
  | wrCtuInte d => exact .next ⟨rfl, .setInte d⟩
  | resetCtu => exact .next ⟨rfl, .reset⟩
  | _ => exact absurd rfl hi

theorem exec_next_ctuMoves {i : Instr} {s t : State} (h : exec i s = .next t) : s.CtuMoves i t :=
  (exec_ctuMoves i s).of_next h

/-! ### The flags a move writes -/

section Flags

variable {p : Params} {c c' : Ctu} {i : Instr}

/-- The writers of the ready flags: a completion, TX_TERM1 and a CTU reset (R28, R133, R157). -/
theorem CtuMove.ready_cases (h : CtuMove p c i c') :
    c'.ready = c.ready ∨
    (∃ v, i = .convComplete v ∧ c'.ready = c.ready.set c.act true) ∨
    (i = .txTerm1 ∧ c'.ready = c.ready.set c.txBuf false) ∨
    (i = .resetCtu ∧ c'.ready = ⟨false, false⟩) := by
  cases h with
  | convComplete v => exact .inr (.inl ⟨v, rfl, rfl⟩)
  | txTerm1 => exact .inr (.inr (.inl ⟨rfl, rfl⟩))
  | reset => exact .inr (.inr (.inr ⟨rfl, rfl⟩))
  | _ => exact .inl rfl

/-- The writers of `RUN` and `CFG_ERR`: a write to `CTRL`, which only sets them, and a CTU reset
(R21, R22). -/
theorem CtuMove.run_cfgErr_cases (h : CtuMove p c i c') :
    (c'.run = c.run ∧ c'.cfgErr = c.cfgErr) ∨
    (∃ d, i = .wrCtuCtrl d ∧ (c.run = true → c'.run = true) ∧ (c.cfgErr = true → c'.cfgErr = true)) ∨
    i = .resetCtu := by
  cases h with
  | start d => exact .inr (.inl ⟨d, rfl, fun _ => rfl, id⟩)
  | misconfigured d => exact .inr (.inl ⟨d, rfl, id, fun _ => rfl⟩)
  | reset => exact .inr (.inr rfl)
  | _ => exact .inl ⟨rfl, rfl⟩

end Flags

/-! ### The invariants of R46 -/

/-- The invariants of R46 that speak of the CTU: (a), (b), (c), (e) and (f). -/
structure Ctu.Sound (p : Params) (c : Ctu) : Prop where
  indices : c.idx < bufLen p ∧ c.txI < bufLen p
  running : c.run = true → c.cfgErr = false ∧ c.clkdiv ≠ 0
  sending : c.txSt ≠ .idle → c.ready.get c.txBuf = true
  queue : c.uq.length ≤ p.uartDepth
  stopped : c.run = false →
    c.ready = ⟨false, false⟩ ∧ c.cnt = ⟨0, 0⟩ ∧ c.intr = ⟨false, false⟩ ∧ c.txSt = .idle

/-- The invariant of R46 that speaks of the RDU, (d): before the lock nothing has been decoded. -/
def Rdu.CleanBeforeLock (r : Rdu) : Prop :=
  r.sst ≠ .synced →
    r.haveLo = false ∧ r.outValid = false ∧ r.frameCnt = 0 ∧ r.boundaryCnt = 0 ∧ r.rdErrCnt = 0

theorem State.wellBehaved_iff {s : State} :
    s.WellBehaved ↔ s.params.valid = true ∧ s.ctu.Sound s.params ∧ s.rdu.CleanBeforeLock :=
  ⟨fun ⟨hp, hidx, hrun, hsend, hhunt, hq, hstop⟩ => ⟨hp, ⟨hidx, hrun, hsend, hq, hstop⟩, hhunt⟩,
   fun ⟨hp, ⟨hidx, hrun, hsend, hq, hstop⟩, hhunt⟩ => ⟨hp, hidx, hrun, hsend, hhunt, hq, hstop⟩⟩

theorem PerBuf.get_set_true {p : PerBuf Bool} {y : Buf} (x : Buf) (h : p.get y = true) :
    (p.set x true).get y = true := by
  by_cases hyx : y = x
  · subst hyx; exact PerBuf.get_set_same p y true
  · rwa [PerBuf.get_set_other p true hyx]

theorem PerBuf.get_both_false (x : Buf) : (⟨false, false⟩ : PerBuf Bool).get x = false := by
  cases x <;> rfl

section Sound

variable {p : Params} {c c' : Ctu} {i : Instr}

/-- A flag is set only while capture runs (R46 f). -/
theorem Ctu.Sound.run_of_ready (hs : c.Sound p) {x : Buf} (hx : c.ready.get x = true) : c.run = true := by
  by_contra hrun
  obtain ⟨hready, -⟩ := hs.stopped (Bool.eq_false_iff.2 hrun)
  rw [hready, PerBuf.get_both_false] at hx
  cases hx

/-- The transmitter sends only while capture runs (R46 c, f). -/
theorem Ctu.Sound.run_of_sending (hs : c.Sound p) (hst : c.txSt ≠ .idle) : c.run = true :=
  hs.run_of_ready (hs.sending hst)

/-- One more byte of a packet, other than its last. -/
theorem Ctu.Sound.sendByte (hs : c.Sound p) {st : TxSt} (hst : c.txSt = st) (hidle : st ≠ .idle)
    (hroom : c.uq.length < p.uartDepth) (b : Byte) (w : Half) {j : Nat} (hj : j < bufLen p) (st' : TxSt) :
    Ctu.Sound p { c with uq := c.uq ++ [b], txWord := w, txI := j, txSt := st' } :=
  have hne : c.txSt ≠ .idle := hst ▸ hidle
  { hs with
    indices := ⟨hs.indices.1, hj⟩
    sending := fun _ => hs.sending hne
    queue := by simpa using hroom
    stopped := fun hrun => nomatch hrun.symm.trans (hs.run_of_sending hne) }

/-- Every move of the CTU keeps its invariants. -/
theorem CtuMove.sound (hs : c.Sound p) (h : CtuMove p c i c') : c'.Sound p := by
  obtain ⟨hidx, htxI⟩ := hs.indices
  cases h with
  | keep => exact hs
  | conv v hrun hlast => exact { hs with indices := ⟨hlast, htxI⟩ }
  | convComplete v hrun hlast =>
    exact { hs with
      indices := ⟨bufLen_pos p, htxI⟩
      sending := fun hst => PerBuf.get_set_true c.act (hs.sending hst)
      stopped := fun hstop => nomatch hstop.symm.trans hrun }
  | txSelect i x hst hready =>
    exact { hs with
      indices := ⟨hidx, bufLen_pos p⟩
      sending := fun _ => hready
      stopped := fun hstop => nomatch hstop.symm.trans (hs.run_of_ready hready) }
  | txLo w hst hroom => exact hs.sendByte hst (by decide) hroom _ _ htxI _
  | txHi hst hroom hlast => exact hs.sendByte hst (by decide) hroom _ _ (by omega) _
  | txHiLast hst hroom hlast => exact hs.sendByte hst (by decide) hroom _ _ htxI _
  | txTerm0 hst hroom => exact hs.sendByte hst (by decide) hroom _ _ htxI _
  | txTerm1 hst hroom =>
    have hrun : c.run = true := hs.run_of_sending (hst ▸ by decide)
    exact { hs with
      sending := fun hne => absurd rfl hne
      queue := by simpa using hroom
      stopped := fun hstop => nomatch hstop.symm.trans hrun }
  | uartShift x rest huq =>
    have hq : rest.length + 1 ≤ p.uartDepth := by simpa [huq] using hs.queue
    exact { hs with queue := Nat.le_of_succ_le hq }
  | start d hrun herr hdiv =>
    exact { hs with running := fun _ => ⟨herr, hdiv⟩, stopped := fun hstop => nomatch hstop }
  | misconfigured d hrun hdiv =>
    exact { hs with running := fun hrun' => nomatch hrun.symm.trans hrun' }
  | setClkdiv d hrun =>
    exact { hs with running := fun hrun' => nomatch hrun.symm.trans hrun' }
  | ackIntr d =>
    refine { hs with stopped := fun hstop => ?_ }
    obtain ⟨hready, hcnt, hintr, hst⟩ := hs.stopped hstop
    exact ⟨hready, hcnt, by simp [hintr], hst⟩
  | setInte d => exact { hs with }
  | reset =>
    exact {
      indices := ⟨bufLen_pos p, bufLen_pos p⟩
      running := fun hrun => nomatch hrun
      sending := fun hne => absurd rfl hne
      queue := Nat.zero_le _
      stopped := fun _ => ⟨rfl, rfl, rfl, rfl⟩ }

end Sound

/-! ### What an instruction does to the RDU -/

/-- A row of the CTU's side leaves the RDU and what has been delivered as they are. -/
theorem exec_onCtu {i : Instr} (hi : ¬offCtu i = true) (s : State) :
    Yields (fun t => t.rdu = s.rdu ∧ t.pcmOut = s.pcmOut) True (exec i s) := by
  cases i with
  | conv v => exact execConv_yields_guarded fun _ _ => ⟨rfl, rfl⟩
  | convComplete v => exact execConvComplete_yields_guarded fun _ _ => ⟨rfl, rfl⟩
  | txLo => exact execTxLo_yields_guarded fun _ _ => ⟨rfl, rfl⟩
  | txSelectA | txSelectB | txPollNone | txTerm0 | txTerm1 => exact .onlyWhen (.next ⟨rfl, rfl⟩)
  | txHi | txHiLast => exact .onlyWhen (.onlyWhen (.next ⟨rfl, rfl⟩))
  | uartShift => exact execUartShift_yields fun _ _ _ => ⟨rfl, rfl⟩
  | buserrSizeNarrow half unit we off | buserrSizeNone unit we off | buserrAlignOdd unit we off
  | buserrAlignHalf unit we off | rdReserved unit off | wrReserved unit off d =>
    cases unit <;> exact .next ⟨rfl, rfl⟩
  | rdCtuCtrl | rdCtuStatus | rdCtuClkdiv | rdCtuCntA | rdCtuCntB | rdCtuIntr | rdCtuInte | rdCtuInts
  | rdCtuConfig
  | wrCtuStatus d | wrCtuCntA d | wrCtuCntB d | wrCtuIntr d | wrCtuInte d | wrCtuInts d | wrCtuConfig d
  | resetCtu =>
    exact .next ⟨rfl, rfl⟩
  | wrCtuCtrl d =>
    exact .ite (fun _ => .ite (fun _ => .next ⟨rfl, rfl⟩) fun _ => .next ⟨rfl, rfl⟩)
      fun _ => .next ⟨rfl, rfl⟩
  | wrCtuClkdiv d => exact .ite (fun _ => .next ⟨rfl, rfl⟩) fun _ => .next ⟨rfl, rfl⟩
  | _ => exact absurd rfl hi

theorem execLinkDeliver_yields {P : State → Prop} {s : State}
    (h : ∀ x, P (s.popWire.pushRxq (.byte x))) : Yields P True (execLinkDeliver s) := by
  unfold execLinkDeliver
  split
  · exact h _
  · trivial

section ReceiverGuards

variable {P : State → Prop} {s : State} {o : Outcome} {k : Byte → Outcome}

/-- A receiver step may start: the output register is empty and `e` is the next event (R185, R205). -/
structure Rdu.Next (r : Rdu) (e : RxEvent) : Prop where
  outEmpty : r.outValid = false
  head : r.rxq.head? = some e

theorem Yields.onByte_guarded (h : ∀ b, s.rdu.Next (.byte b) → Yields P True (k b)) :
    Yields P True (Machine.onByte s k) := by
  unfold Machine.onByte
  split
  · next b rest hout hq => exact h b ⟨hout, by simp [hq]⟩
  · trivial

theorem Yields.onErr_guarded (h : s.rdu.Next .err → Yields P True o) :
    Yields P True (Machine.onErr s o) := by
  unfold Machine.onErr
  split
  · next rest hout hq => exact h ⟨hout, by simp [hq]⟩
  · trivial

theorem Yields.onPair_guarded
    (h : ∀ b, s.rdu.Next (.byte b) → s.rdu.sst = .synced → s.rdu.haveLo = true → Yields P True (k b)) :
    Yields P True (Machine.onPair s k) :=
  .onByte_guarded fun b hb => .onlyWhen_guarded fun ⟨hst, hlo⟩ => h b hb hst hlo

end ReceiverGuards

/-- Instruction `i` leads from the RDU `r` to the RDU given next, and delivers the bytes given last. A row
that leaves the RDU as it is and delivers nothing is `keep`; what arrives from the link (`arrive`) and a byte
that the synchronizer takes without a lock (`hunt`) are moves of several rows. -/
inductive RduMove (r : Rdu) : Instr → Rdu → List Byte → Prop
  | keep (i : Instr) : RduMove r i r []
  | arrive (i : Instr) (e : RxEvent) : RduMove r i { r with rxq := r.rxq ++ [e] } []
  | hunt (i : Instr) (b : Byte) (st : SyncSt) (hnext : r.Next (.byte b)) (hst : r.sst ≠ .synced)
      (hst' : st ≠ .synced) :
    RduMove r i { r with
      rxq := r.rxq.tail, rxOpen := true, syncOffset := r.syncOffset + 1, sst := st } []
  | lock (hnext : r.Next (.byte 0xFF)) (hst : r.sst = .sawFf) :
    RduMove r .syncLock { r with
      rxq := r.rxq.tail, rxOpen := true, syncOffset := r.syncOffset + 1, sst := .synced
      phase := .left, haveLo := false } []
  | syncErrEvent (hnext : r.Next .err) (hst : r.sst ≠ .synced) :
    RduMove r .syncErrEvent { r with
      rxq := r.rxq.tail, rxOpen := true, syncErr := true, syncErrCnt := r.syncErrCnt + 1, sst := .hunt } []
  | decFirst (b : Byte) (hnext : r.Next (.byte b)) (hst : r.sst = .synced) (hlo : r.haveLo = false) :
    RduMove r .decFirst { r with rxq := r.rxq.tail, rxOpen := true, loByte := b, haveLo := true } []
  | decErrEmpty (hnext : r.Next .err) (hst : r.sst = .synced) (hlo : r.haveLo = false) :
    RduMove r .decErrEmpty { r with
      rxq := r.rxq.tail, rxOpen := true, rdErr := true, rdErrCnt := r.rdErrCnt + 1 } []
  | decBoundary (b : Byte) (hnext : r.Next (.byte b)) (hst : r.sst = .synced) (hlo : r.haveLo = true)
      (hpair : isBoundary r.loByte b = true) :
    RduMove r .decBoundary { r with
      rxq := r.rxq.tail, rxOpen := true, haveLo := false, boundaryCnt := r.boundaryCnt + 1 } []
  | decLeft (b : Byte) (hnext : r.Next (.byte b)) (hst : r.sst = .synced) (hlo : r.haveLo = true)
      (hphase : r.phase = .left) (hpair : isBoundary r.loByte b = false) :
    RduMove r .decLeft { r with
      rxq := r.rxq.tail, rxOpen := true, leftVal := toPcm (pairWord r.loByte b), phase := .right
      haveLo := false } []
  | decRight (b : Byte) (hnext : r.Next (.byte b)) (hst : r.sst = .synced) (hlo : r.haveLo = true)
      (hphase : r.phase = .right) (hpair : isBoundary r.loByte b = false) :
    RduMove r .decRight { r with
      rxq := r.rxq.tail, rxOpen := true, outL := r.leftVal, outR := toPcm (pairWord r.loByte b)
      outValid := true, phase := .left, haveLo := false, frameCnt := r.frameCnt + 1 } []
  | decErrShort (hnext : r.Next .err) (hst : r.sst = .synced) (hlo : r.haveLo = true) :
    RduMove r .decErrShort { r with
      rxq := r.rxq.tail, rxOpen := true, rdErr := true, rdErrCnt := r.rdErrCnt + 1, haveLo := false } []
  | sinkAccept (hout : r.outValid = true) :
    RduMove r .sinkAccept { r with outValid := false } (frameBytes r.outL r.outR)
  | ackErrors (d : Reg) :
    RduMove r (.wrRduRstatus d) { r with
      syncErr := r.syncErr && !d.getLsbD 5, rdErr := r.rdErr && !d.getLsbD 6 } []
  | reset : RduMove r .resetRdu Rdu.atReset []

/-- Instruction `i` leads from `s` to `t` as far as the RDU and the delivered bytes go. -/
def State.RduMoves (s : State) (i : Instr) (t : State) : Prop :=
  ∃ out, RduMove s.rdu i t.rdu out ∧ t.pcmOut = s.pcmOut ++ out

theorem State.RduMoves.quiet {s t : State} {i : Instr} (h : RduMove s.rdu i t.rdu [])
    (hpcm : t.pcmOut = s.pcmOut) : s.RduMoves i t :=
  ⟨[], h, hpcm.trans (List.append_nil _).symm⟩

/-- What any instruction does to the RDU and to what has been delivered is a move. -/
theorem exec_rduMoves (i : Instr) (s : State) : Yields (s.RduMoves i) True (exec i s) := by
  by_cases hi : offCtu i = true
  case neg =>
    exact (exec_onCtu hi s).mono (fun t ⟨hrdu, hpcm⟩ => .quiet (hrdu ▸ .keep i) hpcm) id
  cases i with
  | encSubst | encPass w
  | rdRduRstatus | rdRduSyncOffset | rdRduSyncErrCnt | rdRduRdErrCnt | rdRduBoundaryCnt | rdRduFrameCnt
  | rdRduOutFrame | rdRduLeftHold
  | wrRduSyncOffset d | wrRduSyncErrCnt d | wrRduRdErrCnt d | wrRduBoundaryCnt d
  | wrRduFrameCnt d | wrRduOutFrame d | wrRduLeftHold d =>
    exact .next (.quiet (.keep _) rfl)
  | wrRduRstatus d => exact .next (.quiet (.ackErrors d) rfl)
  | resetRdu => exact .next (.quiet .reset rfl)
  | linkDeliver => exact execLinkDeliver_yields fun x => .quiet (.arrive _ (.byte x)) rfl
  | linkTimeout | linkTimeoutLossy => exact .onlyWhen (.next (.quiet (.arrive _ .err) rfl))
  | linkInsert c => exact .onlyWhen (.next (.quiet (.arrive _ (.byte c)) rfl))
  | linkSkip | linkDrop | linkCorrupt c => exact .onlyWhen (.next (.quiet (.keep _) rfl))
  | sinkAccept => exact .onlyWhen_guarded fun hout => .next ⟨_, .sinkAccept hout, rfl⟩
  | syncHuntFf | syncHuntOther | syncResume =>
    exact .onByte_guarded fun b hb => .onlyWhen_guarded fun ⟨hst, _⟩ =>
      .next (.quiet (.hunt _ b _ hb (hst ▸ by decide) (by decide)) rfl)
  | syncLock =>
    refine .onByte_guarded fun b hb => .onlyWhen_guarded fun ⟨hst, hff⟩ => ?_
    obtain rfl : b = 0xFF := by simpa [isTermByte] using hff
    exact .next (.quiet (.lock hb hst) rfl)
  | syncErrEvent =>
    exact .onErr_guarded fun he => .onlyWhen_guarded fun hst => .next (.quiet (.syncErrEvent he hst) rfl)
  | decFirst =>
    exact .onByte_guarded fun b hb => .onlyWhen_guarded fun ⟨hst, hlo⟩ =>
      .next (.quiet (.decFirst b hb hst hlo) rfl)
  | decErrEmpty =>
    exact .onErr_guarded fun he => .onlyWhen_guarded fun ⟨hst, hlo⟩ =>
      .next (.quiet (.decErrEmpty he hst hlo) rfl)
  | decBoundary =>
    exact .onPair_guarded fun b hb hst hlo => .onlyWhen_guarded fun hpair =>
      .next (.quiet (.decBoundary b hb hst hlo hpair) rfl)
  | decLeft =>
    exact .onPair_guarded fun b hb hst hlo => .onlyWhen_guarded fun ⟨hphase, hpair⟩ =>
      .next (.quiet (.decLeft b hb hst hlo hphase hpair) rfl)
  | decRight =>
    exact .onPair_guarded fun b hb hst hlo => .onlyWhen_guarded fun ⟨hphase, hpair⟩ =>
      .next (.quiet (.decRight b hb hst hlo hphase hpair) rfl)
  | decErrShort =>
    exact .onErr_guarded fun he => .onlyWhen_guarded fun ⟨hst, hlo⟩ =>
      .next (.quiet (.decErrShort he hst hlo) rfl)
  | _ => cases hi

theorem exec_next_rduMoves {i : Instr} {s t : State} (h : exec i s = .next t) : s.RduMoves i t :=
  (exec_rduMoves i s).of_next h

/-- Every move of the RDU keeps R46 (d): before the lock the synchronizer's rows leave the decoder's
elements as they are, and the decoder's rows run only after it and stay there. -/
theorem RduMove.cleanBeforeLock {r r' : Rdu} {i : Instr} {out : List Byte} (hs : r.CleanBeforeLock)
    (h : RduMove r i r' out) : r'.CleanBeforeLock := by
  intro hst'
  cases h with
  | keep | arrive | ackErrors => exact hs hst'
  | hunt i b st hnext hst | syncErrEvent hnext hst => exact hs hst
  | lock => exact absurd rfl hst'
  | decFirst b hnext hst | decBoundary b hnext hst | decLeft b hnext hst | decRight b hnext hst
  | decErrEmpty hnext hst | decErrShort hnext hst => exact absurd hst hst'
  | sinkAccept =>
    obtain ⟨hlo, -, hcnts⟩ := hs hst'
    exact ⟨hlo, rfl, hcnts⟩
  | reset => exact ⟨rfl, rfl, rfl, rfl, rfl⟩

/-! ### Every instruction keeps the invariants -/

theorem exec_keeps_wellBehaved {i : Instr} {s t : State} (hs : s.WellBehaved) (h : exec i s = .next t) :
    t.WellBehaved := by
  obtain ⟨hp, hctu, hrdu⟩ := State.wellBehaved_iff.1 hs
  obtain ⟨hparams, hmove⟩ := exec_next_ctuMoves h
  obtain ⟨out, hrmove, -⟩ := exec_next_rduMoves h
  refine State.wellBehaved_iff.2 ⟨?_, ?_, hrmove.cleanBeforeLock hrdu⟩
  · rw [hparams]; exact hp
  · rw [hparams]; exact hmove.sound hctu

/-- The trace and the count of choices are no part of the invariants. -/
theorem State.WellBehaved.book {s : State} (hs : s.WellBehaved) (tr : List TraceLine) (n : Nat) :
    State.WellBehaved { s with trace := tr, tick := n } :=
  { hs with }

theorem State.BuffersSound.book {s : State} (hb : s.BuffersSound) (tr : List TraceLine) (n : Nat) :
    State.BuffersSound { s with trace := tr, tick := n } :=
  { hb with }

section Buffers

variable {s t : State}

/-- The arenas stay sound where neither they nor the fill change and no ready flag is set. -/
theorem State.BuffersSound.of_arenas_kept (hb : s.BuffersSound) (hp : t.params = s.params)
    (hmem : t.ctu.mem = s.ctu.mem) (hepoch : t.ctu.bufEpoch = s.ctu.bufEpoch)
    (hact : t.ctu.act = s.ctu.act) (hidx : t.ctu.idx = s.ctu.idx)
    (hready : ∀ x, t.ctu.ready.get x = true → s.ctu.ready.get x = true) : t.BuffersSound := by
  have hwritten : ∀ x i, t.cellWritten x i = s.cellWritten x i := fun x i => by
    simp only [State.cellWritten, hmem, hp]
  have hcell : ∀ x i, t.readCell x i = s.readCell x i := fun x i => by
    simp only [State.readCell, State.readByte, hmem, hp, hepoch]
  refine ⟨hmem ▸ hb.canonical, fun x i hx hi => ?_, fun i hi => ?_, fun x i hi hw => ?_⟩
  · rw [hwritten]; exact hb.readyWritten x i (hready x hx) (hp ▸ hi)
  · rw [hwritten, hact]; exact hb.fillWritten i (hidx ▸ hi)
  · rw [hcell]; exact hb.samples x i (hp ▸ hi) (hwritten x i ▸ hw)

/-- A capture's write leaves the cells of the buffer being filled written up to and with `IDX`. -/
theorem State.BuffersSound.filled_of_capture {v : Half} (hb : s.BuffersSound) (hp : t.params = s.params)
    (hmem : t.ctu.mem = Memory.writeHalf s.ctu.mem (cellAddr s.params s.ctu.act s.ctu.idx) v)
    {i : Nat} (hi : i < s.ctu.idx + 1) : t.cellWritten s.ctu.act i = true := by
  rcases Nat.lt_succ_iff_lt_or_eq.1 hi with hlt | rfl
  · exact State.cellWritten_mono hmem hp (hb.fillWritten i hlt)
  · exact State.cellWritten_of_writeHalf hmem hp

/-- A capture's write keeps the written cells 12 bits wide: it writes such a value, and every other cell
reads as before. -/
theorem State.BuffersSound.samples_of_capture {v : BitVec 12} (hb : s.BuffersSound)
    (hp : t.params = s.params) (hepoch : t.ctu.bufEpoch = s.ctu.bufEpoch)
    (hmem : t.ctu.mem = Memory.writeHalf s.ctu.mem (cellAddr s.params s.ctu.act s.ctu.idx) (sampleWord v))
    (hidx : s.ctu.idx < bufLen s.params) (x : Buf) (i : Nat) (hi : i < bufLen t.params)
    (hw : t.cellWritten x i = true) : t.readCell x i < 4096 := by
  rw [hp] at hi
  by_cases hcell : s.ctu.act = x ∧ s.ctu.idx = i
  · obtain ⟨rfl, rfl⟩ := hcell
    rw [State.readCell_of_writeHalf hmem hp]
    exact sampleWord_lt v
  · rw [State.readCell_of_writeHalf_other hmem hepoch hp hidx hi hcell]
    rw [State.cellWritten_of_writeHalf_other hmem hp hidx hi hcell] at hw
    exact hb.samples x i hi hw

theorem exec_keeps_buffersSound {i : Instr} (hb : s.BuffersSound) (h : exec i s = .next t) :
    t.BuffersSound := by
  obtain ⟨hp, hmove⟩ := exec_next_ctuMoves h
  generalize hc : t.ctu = c at hmove
  cases hmove with
  | conv v hrun hidx =>
    have hmem : t.ctu.mem = _ := congrArg Ctu.mem hc
    refine ⟨?_, fun x i hx hi => ?_, fun i hi => ?_, ?_⟩
    · rw [hmem]; exact Memory.wf_writeHalf _ _ hb.canonical
    · rw [hc] at hx
      exact State.cellWritten_mono hmem hp (hb.readyWritten x i hx (hp ▸ hi))
    · rw [hc] at hi ⊢
      exact hb.filled_of_capture hp hmem hi
    · exact hb.samples_of_capture hp (by rw [hc]) hmem (Nat.lt_of_succ_lt hidx)
  | convComplete v hrun hidx =>
    have hmem : t.ctu.mem = _ := congrArg Ctu.mem hc
    refine ⟨?_, fun x i hx hi => ?_, fun i hi => ?_, ?_⟩
    · rw [hmem]; exact Memory.wf_writeHalf _ _ hb.canonical
    · rw [hp, ← hidx] at hi
      by_cases hact : x = s.ctu.act
      · subst hact; exact hb.filled_of_capture hp hmem hi
      · rw [hc, PerBuf.get_set_other _ _ hact] at hx
        exact State.cellWritten_mono hmem hp (hb.readyWritten x i hx (hidx ▸ hi))
    · rw [hc] at hi; exact absurd hi (Nat.not_lt_zero i)
    · exact hb.samples_of_capture hp (by rw [hc]) hmem (Nat.lt_of_succ_le hidx.le)
  | txTerm1 =>
    refine hb.of_arenas_kept hp (by rw [hc]) (by rw [hc]) (by rw [hc]) (by rw [hc]) fun x hx => ?_
    rw [hc] at hx
    by_cases hbuf : x = s.ctu.txBuf
    · subst hbuf; exact nomatch (PerBuf.get_set_same _ _ _).symm.trans hx
    · rwa [PerBuf.get_set_other _ _ hbuf] at hx
  | reset =>
    have hready : t.ctu.ready = ⟨false, false⟩ := congrArg Ctu.ready hc
    have hunwritten : ∀ x i, t.cellWritten x i = false := fun x i => by
      rw [State.cellWritten, hc]; rfl
    refine ⟨by rw [hc]; rfl, fun x i hx => ?_, fun i hi => ?_, fun x i _ hw => ?_⟩
    · rw [hready, PerBuf.get_both_false] at hx; cases hx
    · rw [hc] at hi; exact absurd hi (Nat.not_lt_zero i)
    · rw [hunwritten] at hw; cases hw
  | _ =>
    exact hb.of_arenas_kept hp (by rw [hc]) (by rw [hc]) (by rw [hc]) (by rw [hc]) fun x hx => by rwa [hc] at hx

end Buffers

end Sys2Proof.Machine

namespace Sys2Proof.Proofs

open Sys2Proof.Machine

/-- Settles O39: the parameters are kept, the CTU makes a move, and the RDU keeps R46 (d). -/
theorem stepKeepsWellBehaved : Obligations.StepKeepsWellBehaved := by
  intro s t hs h
  exact step_keeps (fun _ tr n hu => hu.book tr n) (fun _ _ _ => exec_keeps_wellBehaved) hs h

/-- Settles O40: only a capture writes a cell, and a completion finds its buffer filled below `IDX`. -/
theorem stepKeepsBuffersSound : Obligations.StepKeepsBuffersSound := by
  intro s t _ hb h
  exact step_keeps (fun _ tr n hu => hu.book tr n) (fun _ _ _ => exec_keeps_buffersSound) hb h

/-- Settles O43: a fault needs an index outside the arenas, which R46 (a) excludes. -/
theorem wellBehavedStepNeverFaults : Obligations.WellBehavedStepNeverFaults := by
  intro s f hs h
  exact hs.not_indexOutside (step_eq_fault h)

/-- Settles O55, from `CtuMove.ready_cases`. -/
theorem readyFlagWriters : Obligations.ReadyFlagWriters := by
  intro i s t x h
  rcases (exec_next_ctuMoves h).move.ready_cases with
    hr | ⟨v, rfl, hr⟩ | ⟨rfl, hr⟩ | ⟨rfl, hr⟩ <;> rw [hr]
  · simp_all
  · by_cases hx : x = s.ctu.act
    · simp [hx]
    · simp_all [PerBuf.get_set_other _ _ hx]
  · by_cases hx : x = s.ctu.txBuf
    · simp [hx]
    · simp_all [PerBuf.get_set_other _ _ hx]
  · simp [PerBuf.get_both_false]

/-- Settles O57, from `CtuMove.run_cfgErr_cases`. -/
theorem runAndCfgErrLatch : Obligations.RunAndCfgErrLatch := by
  intro i s t h hreset
  rcases (exec_next_ctuMoves h).move.run_cfgErr_cases with ⟨hrun, herr⟩ | ⟨d, hi, hrun, herr⟩ | hi
  · rw [hrun, herr]; exact ⟨id, id, fun _ => ⟨rfl, rfl⟩⟩
  · exact ⟨hrun, herr, fun hctrl => absurd hi (hctrl d)⟩
  · exact absurd hi hreset

/-- Settles O58: each instruction's bytes come after those already delivered. -/
theorem pcmOutIsAppendOnly : Obligations.PcmOutIsAppendOnly := by
  intro s t h
  obtain ⟨tr, n, rfl | ⟨i, hi⟩⟩ := step_next_exec h
  · exact ⟨[], (List.append_nil _).symm⟩
  · obtain ⟨out, -, hpcm⟩ := exec_next_rduMoves hi
    exact ⟨out, hpcm⟩

end Sys2Proof.Proofs
end

section
/-!
PROOFS. The link (spec/20_memory.md section 6): what its timeout and its damaging steps do, and that a timeout
on a line with bytes waiting, where the link is not lossy, is no step (R81 to R83).
-/

namespace Sys2Proof.Machine

/-! ### Words that no row matches -/

theorem firstMatch_eq_none {rows : List Row} {w : DispatchBits} {d : Reg} :
    firstMatch rows w d = none ↔ ∀ r ∈ rows, w &&& r.mask ≠ r.pat := by
  induction rows with
  | nil => simp [firstMatch]
  | cons r rest ih =>
    rw [firstMatch, List.forall_mem_cons]
    split
    · next hm => simp [hm]
    · next hm => simp [hm, ih]

/-- A word of the format that R107 does not reserve is refused as `noRow` where no row matches it, whatever
the operand. -/
theorem decode_eq_noRow {f : Format} {w : DispatchBits} {d : Reg} (hwidth : w >>> formatWidth f = 0)
    (hres : isReservedWord f w = false) (hrows : ∀ r ∈ formatRows f, w &&& r.mask ≠ r.pat) :
    decode f w d = .bad .noRow := by
  simp [decode, hwidth, hres, firstMatch_eq_none.2 hrows]

theorem State.runLine_of_bad {s : State} {line : TraceLine} {e : DecodeError}
    (h : decodeRequest (fetchLine line s) = .bad e) : s.runLine line = .refused (.badWord e) := by
  simp [State.runLine, h]

/-- LINK_TIMEOUT asks for `WNE = 0` and LINK_TIMEOUT_LOSSY for `LOSSY = 1` (R81); every other row of the link
has another `CODE`. The word's two remaining bits, `RXQE` and `RX_OPEN`, do not matter. -/
theorem decode_linkWord_timeout {s : State} (hwire : s.wire ≠ []) (hlossy : s.params.linkLossy = false)
    (d : Reg) : decode .link (linkWord .timeout s) d = .bad .noRow := by
  have hwne : (!s.wire.isEmpty) = true := by simpa using hwire
  simp only [linkWord, hlossy, hwne]
  generalize s.rdu.rxq.isEmpty = rxqe
  generalize s.rdu.rxOpen = rxOpen
  refine decode_eq_noRow ?_ ?_ ?_ <;> (revert rxqe rxOpen; decide)

/-! ### The byte at the head of the line -/

theorem State.popWire_of_cons {s : State} {x : Byte} {rest : List Byte} (h : s.wire = x :: rest) :
    s.popWire = { s with wire := rest } := by
  simp [State.popWire, h]

section Lossy

variable {s : State} (hlossy : s.params.linkLossy = true)

include hlossy

theorem exec_linkInsert_of_lossy (c : Byte) :
    exec (.linkInsert c) s = .next { s with rdu.rxq := s.rdu.rxq ++ [.byte c] } :=
  onlyWhen_of hlossy

theorem exec_linkDrop_of_cons {x : Byte} {rest : List Byte} (hwire : s.wire = x :: rest) :
    exec .linkDrop s = .next { s with wire := rest } := by
  rw [← State.popWire_of_cons hwire]
  exact onlyWhen_of ⟨hlossy, by simp [hwire]⟩

theorem exec_linkCorrupt_of_cons (c : Byte) {x : Byte} {rest : List Byte} (hwire : s.wire = x :: rest) :
    exec (.linkCorrupt c) s = .next { s with wire := c :: rest } := by
  have htail : s.wire.tail = rest := by rw [hwire, List.tail_cons]
  rw [← htail]
  exact onlyWhen_of ⟨hlossy, by simp [hwire]⟩

end Lossy

end Sys2Proof.Machine

namespace Sys2Proof.Proofs

open Sys2Proof.Machine

/-- Settles O11: each of the two rows where its guard holds, and no row where neither does. -/
theorem linkTimeoutPushesErr : Obligations.LinkTimeoutPushesErr := by
  intro s
  refine ⟨fun hidle => onlyWhen_of hidle, fun hlossy => onlyWhen_of hlossy, fun hwire hlossy x => ?_⟩
  exact State.runLine_of_bad (decode_linkWord_timeout hwire hlossy _)

/-- Settles O12: the guard holds, and what is popped is the head. -/
theorem linkSkipLosesHead : Obligations.LinkSkipLosesHead := by
  intro s x rest hopen hrxq hwire
  rw [← State.popWire_of_cons hwire]
  exact onlyWhen_of ⟨hopen, hrxq, by simp [hwire]⟩

/-- Settles O13: on a link that is not lossy each of the three guards fails at its first clause. -/
theorem lossyLinkDamages : Obligations.LossyLinkDamages := by
  intro s c
  refine ⟨fun hlossy => ⟨exec_linkInsert_of_lossy hlossy c, fun x rest hwire =>
    ⟨exec_linkDrop_of_cons hlossy hwire, exec_linkCorrupt_of_cons hlossy c hwire⟩⟩, fun hlossless => ?_⟩
  have hnot : ¬s.params.linkLossy = true := by simp [hlossless]
  exact ⟨onlyWhen_of_not hnot, onlyWhen_of_not fun h => hnot h.1, onlyWhen_of_not fun h => hnot h.1⟩

end Sys2Proof.Proofs
end

section
/-!
PROOFS. The decoder and the encoder: the fields of a word that a row's mask tests, the rows of the bus operation
word, the words no step has (R107), and that decoding gives back what was encoded (R104, R105, R111).
-/

namespace Sys2Proof.Machine

/-! ### Fields of a dispatch word -/

/-- A row whose mask is the `n` bits from bit `k` tests that field of the word. -/
theorem and_fieldMask_eq_iff {N k n : Nat} (hkn : k + n ≤ N) (w : BitVec N) (v : BitVec n) :
    w &&& ((BitVec.allOnes n).setWidth N <<< k) = v.setWidth N <<< k ↔ w.extractLsb' k n = v := by
  constructor
  · intro h
    apply BitVec.eq_of_getLsbD_eq
    intro j hj
    have hbit := congrArg (·.getLsbD (k + j)) h
    simpa [hj, show k + j < N by omega] using hbit
  · rintro rfl
    apply BitVec.eq_of_getLsbD_eq
    intro j hj
    by_cases hk : j < k
    · simp [hk]
    · by_cases hn : j - k < n <;> simp [hk, hn, hj, show k + (j - k) = j by omega]

theorem ushiftRight_eq_zero_of_lt {w : DispatchBits} {n : Nat} (h : w.toNat < 2 ^ n) : w >>> n = 0 := by
  apply BitVec.eq_of_toNat_eq
  rw [BitVec.toNat_ushiftRight, Nat.shiftRight_eq_div_pow, Nat.div_eq_of_lt h]
  rfl

theorem toNat_and_seven (w : DispatchBits) : (w &&& 7).toNat = (w.extractLsb' 0 3).toNat := by
  simpa using Nat.and_two_pow_sub_one_eq_mod w.toNat 3

/-! ### The words R107 refuses -/

theorem decode_of_reserved {f : Format} {w : DispatchBits} (d : Reg) (hwidth : w.toNat < 2 ^ formatWidth f)
    (hres : isReservedWord f w = true) : decode f w d = .bad .reservedWord := by
  simp [decode, ushiftRight_eq_zero_of_lt hwidth, hres]

theorem isReservedWord_tx {w : DispatchBits} (h : 5 ≤ w.extractLsb' 0 3) : isReservedWord .tx w = true := by
  have hcode : 5 ≤ (w &&& 7).toNat := (toNat_and_seven w).symm ▸ h
  exact decide_eq_true hcode

theorem isReservedWord_rx {w : DispatchBits} (h : w.extractLsb' 9 2 = 3) : isReservedWord .rx w = true :=
  beq_iff_eq.2 ((and_fieldMask_eq_iff (by decide) w 3).2 h)

theorem isReservedWord_link {w : DispatchBits} (h : 6 ≤ w.extractLsb' 0 3 ∨ w.getLsbD 7 = true) :
    isReservedWord .link w = true := by
  rcases h with hcode | hbit
  · have hcode : 6 ≤ (w &&& 7).toNat := (toNat_and_seven w).symm ▸ hcode
    exact Bool.or_eq_true_iff.2 (.inl (decide_eq_true hcode))
  · exact Bool.or_eq_true_iff.2 (.inr hbit)

/-! ### Fields of the bus operation word (R103) -/

section BusFields

variable (size : BitVec 2) (unit : BusUnit) (we : Bool) (off : Byte)

theorem getLsbD_busWord (j : Nat) :
    (busWord size unit we off).getLsbD j =
      if j < 8 then off.getLsbD j else if j = 8 then we
        else if j = 9 then (busUnitBit unit).getLsbD 0 else size.getLsbD (j - 10) := by
  have hfits : (busWord size unit we off).getLsbD j =
      (size ++ (busUnitBit unit ++ (BitVec.ofBool we ++ off))).getLsbD j := by
    rw [busWord, BitVec.getLsbD_setWidth, Bool.and_eq_right_iff_imp]
    intro h
    simpa using (BitVec.lt_of_getLsbD h).trans (by decide)
  rw [hfits, BitVec.getLsbD_append, BitVec.getLsbD_append, BitVec.getLsbD_append]
  rcases (by omega : j < 8 ∨ j = 8 ∨ j = 9 ∨ 10 ≤ j) with hj | rfl | rfl | hj
  · simp only [hj, show j < 1 + (1 + 8) by omega, show j < 1 + 8 by omega, if_true]
  · simp
  · simp
  · simp only [show ¬j < 1 + (1 + 8) by omega, show ¬j < 8 by omega, show j ≠ 8 by omega,
      show j ≠ 9 by omega, if_false]

theorem extractLsb'_busWord_off {k n : Nat} (hkn : k + n ≤ 8) :
    (busWord size unit we off).extractLsb' k n = off.extractLsb' k n := by
  apply BitVec.eq_of_getLsbD_eq
  intro j hj
  simp [getLsbD_busWord, hj, show k + j < 8 by omega]

theorem extractLsb'_busWord_size {k n : Nat} :
    (busWord size unit we off).extractLsb' (10 + k) n = size.extractLsb' k n := by
  apply BitVec.eq_of_getLsbD_eq
  intro j hj
  simp [getLsbD_busWord, show ¬10 + k + j < 8 by omega, show 10 + k + j ≠ 8 by omega,
    show 10 + k + j ≠ 9 by omega, show 10 + k + j - 10 = k + j by omega]

theorem getLsbD_busWord_we : (busWord size unit we off).getLsbD 8 = we :=
  getLsbD_busWord size unit we off 8

theorem busUnitOf_busWord : busUnitOf (busWord size unit we off) = unit := by
  cases unit <;> exact if_congr (Bool.coe_iff_coe.2 (getLsbD_busWord _ _ _ _ 9)) rfl rfl

theorem busOff_busWord : busOff (busWord size unit we off) = off := by
  apply BitVec.eq_of_getLsbD_eq
  intro j hj
  simp [busOff, getLsbD_busWord, hj]

/-! What each mask of R104 asks of the fields. -/

theorem busWord_size_test : busWord size unit we off &&& 0x800 = 0 ↔ size < 2 := by
  refine (and_fieldMask_eq_iff (k := 11) (n := 1) (by decide) _ 0).trans ?_
  rw [extractLsb'_busWord_size (k := 1)]
  revert size; decide

theorem busWord_noSize_test : busWord size unit we off &&& 0xC00 = 0xC00 ↔ size = 3 := by
  refine (and_fieldMask_eq_iff (k := 10) (n := 2) (by decide) _ 3).trans ?_
  rw [extractLsb'_busWord_size (k := 0), BitVec.extractLsb'_eq_self]

theorem busWord_odd_test : busWord size unit we off &&& 0x001 = 0x001 ↔ off &&& 1 = 1 := by
  refine (and_fieldMask_eq_iff (k := 0) (n := 1) (by decide) _ 1).trans ?_
  rw [extractLsb'_busWord_off _ _ _ _ (by decide)]
  exact (and_fieldMask_eq_iff (k := 0) (n := 1) (by decide) off 1).symm

theorem busWord_half_test : busWord size unit we off &&& 0x003 = 0x002 ↔ off &&& 3 = 2 := by
  refine (and_fieldMask_eq_iff (k := 0) (n := 2) (by decide) _ 2).trans ?_
  rw [extractLsb'_busWord_off _ _ _ _ (by decide)]
  exact (and_fieldMask_eq_iff (k := 0) (n := 2) (by decide) off 2).symm

theorem busWord_we_test (v : Bool) :
    busWord size unit we off &&& 0x100 = (BitVec.ofBool v).setWidth 24 <<< 8 ↔ we = v := by
  have hwe : (busWord size unit we off).extractLsb' 8 1 = BitVec.ofBool we := by
    apply BitVec.eq_of_getLsbD_eq
    intro j hj
    obtain rfl : j = 0 := by omega
    simpa using getLsbD_busWord_we size unit we off
  refine (and_fieldMask_eq_iff (k := 8) (n := 1) (by decide) _ (BitVec.ofBool v)).trans ?_
  rw [hwe]
  clear hwe
  revert we v; decide

theorem busWord_and_all : busWord size unit we off &&& 0xFFF = busWord size unit we off := by
  have hlt : (busWord size unit we off).toNat < 2 ^ 12 := by
    rw [busWord, BitVec.toNat_setWidth]
    exact (Nat.mod_le _ _).trans_lt (BitVec.isLt _)
  apply BitVec.eq_of_toNat_eq
  rw [BitVec.toNat_and]
  exact (Nat.and_two_pow_sub_one_eq_mod _ 12).trans (Nat.mod_eq_of_lt hlt)

end BusFields

/-- Every word of 12 bits is a bus operation word. -/
theorem eq_busWord {w : DispatchBits} (hw : w.toNat < 2 ^ 12) :
    w = busWord (w.extractLsb' 10 2) (busUnitOf w) (w.getLsbD 8) (busOff w) := by
  apply BitVec.eq_of_getLsbD_eq
  intro j hj
  rw [getLsbD_busWord]
  split
  · next h => simp [busOff, h]
  split
  · next h => rw [h]
  split
  · next h => subst h; unfold busUnitOf; split <;> simp_all [busUnitBit]
  rcases Nat.lt_or_ge j 12 with h | h
  · simp [show j - 10 < 2 by omega, show 10 + (j - 10) = j by omega]
  · have hbit : w.getLsbD j = false :=
      Nat.testBit_lt_two_pow (hw.trans_le (Nat.pow_le_pow_right (by decide) h))
    simp [hbit, show ¬j - 10 < 2 by omega]

/-! ### The rows of the bus operation word -/

/-- The rows of the named offsets (R101, R102), between the bus errors and the reserved offsets. -/
def registerRows : List Row :=
  (busRows.drop 4).take 34

/-- The rows of the offsets no register has (R250). -/
def reservedRows : List Row :=
  busRows.drop 38

/-- The four bus errors come before both. -/
theorem busRows_drop_four : busRows.drop 4 = registerRows ++ reservedRows := rfl

theorem firstMatch_of_match {r : Row} {rest : List Row} {w : DispatchBits} (d : Reg)
    (h : w &&& r.mask = r.pat) : firstMatch (r :: rest) w d = some (r.build w d) :=
  if_pos h

theorem firstMatch_of_not_match {r : Row} {rest : List Row} {w : DispatchBits} (d : Reg)
    (h : ¬w &&& r.mask = r.pat) : firstMatch (r :: rest) w d = firstMatch rest w d :=
  if_neg h

theorem firstMatch_append (l l' : List Row) (w : DispatchBits) (d : Reg) :
    firstMatch (l ++ l') w d = (firstMatch l w d).or (firstMatch l' w d) := by
  induction l with
  | nil => rfl
  | cons r rest ih =>
    rw [List.cons_append, firstMatch, firstMatch]
    split
    · rfl
    · exact ih

section BusRows

variable {size : BitVec 2} {unit : BusUnit} {we : Bool} {off : Byte} {d : Reg}

theorem decode_busWord {i : Instr} (h : firstMatch busRows (busWord size unit we off) d = some i) :
    decode .bus (busWord size unit we off) d = .ok i :=
  decode_eq_ok.2 ⟨(Laws.busWord_fits rfl size unit we off).1, rfl, h⟩

theorem decode_busWord_narrow (hsize : size < 2) :
    decode .bus (busWord size unit we off) d = .ok (.buserrSizeNarrow (size.getLsbD 0) unit we off) := by
  refine decode_busWord ((firstMatch_of_match d ((busWord_size_test ..).2 hsize)).trans ?_)
  simp only [busUnitOf_busWord, busOff_busWord, getLsbD_busWord_we]
  exact congrArg (fun b => some (Instr.buserrSizeNarrow b unit we off)) (getLsbD_busWord size unit we off 10)

theorem decode_busWord_noSize :
    decode .bus (busWord 3 unit we off) d = .ok (.buserrSizeNone unit we off) := by
  refine decode_busWord ((firstMatch_of_not_match d (mt (busWord_size_test ..).1 (by decide))).trans
    ((firstMatch_of_match d ((busWord_noSize_test ..).2 rfl)).trans ?_))
  simp only [busUnitOf_busWord, busOff_busWord, getLsbD_busWord_we]

/-- A 32-bit access passes the two rows that test the size. -/
theorem firstMatch_busWord_two :
    firstMatch busRows (busWord 2 unit we off) d = firstMatch (busRows.drop 2) (busWord 2 unit we off) d :=
  (firstMatch_of_not_match d (mt (busWord_size_test ..).1 (by decide))).trans
    (firstMatch_of_not_match d (mt (busWord_noSize_test ..).1 (by decide)))

theorem decode_busWord_odd (hoff : off &&& 1 = 1) :
    decode .bus (busWord 2 unit we off) d = .ok (.buserrAlignOdd unit we off) := by
  refine decode_busWord (firstMatch_busWord_two.trans
    ((firstMatch_of_match d ((busWord_odd_test ..).2 hoff)).trans ?_))
  simp only [busUnitOf_busWord, busOff_busWord, getLsbD_busWord_we]

/-- An offset's residue modulo 2, from that modulo 4. -/
theorem and_one_eq (off : Byte) : off &&& 1 = (off &&& 3) &&& 1 := by
  rw [BitVec.and_assoc]
  rfl

theorem decode_busWord_half (hoff : off &&& 3 = 2) :
    decode .bus (busWord 2 unit we off) d = .ok (.buserrAlignHalf unit we off) := by
  have hodd : ¬off &&& 1 = 1 := by rw [and_one_eq, hoff]; decide
  refine decode_busWord (firstMatch_busWord_two.trans
    ((firstMatch_of_not_match d (mt (busWord_odd_test ..).1 hodd)).trans
      ((firstMatch_of_match d ((busWord_half_test ..).2 hoff)).trans ?_)))
  simp only [busUnitOf_busWord, busOff_busWord, getLsbD_busWord_we]

/-- An aligned 32-bit access passes the four bus errors. -/
theorem firstMatch_busWord_aligned (hoff : off &&& 3 = 0) :
    firstMatch busRows (busWord 2 unit we off) d =
      (firstMatch registerRows (busWord 2 unit we off) d).or
        (firstMatch reservedRows (busWord 2 unit we off) d) := by
  have hodd : ¬off &&& 1 = 1 := by rw [and_one_eq, hoff]; decide
  have hhalf : ¬off &&& 3 = 2 := by rw [hoff]; decide
  rw [← firstMatch_append, ← busRows_drop_four]
  exact firstMatch_busWord_two.trans
    ((firstMatch_of_not_match d (mt (busWord_odd_test ..).1 hodd)).trans
      (firstMatch_of_not_match d (mt (busWord_half_test ..).1 hhalf)))

theorem firstMatch_reservedRows :
    firstMatch reservedRows (busWord size unit we off) d =
      some (if we then .wrReserved unit off d else .rdReserved unit off) := by
  cases we with
  | false =>
    refine (firstMatch_of_match d ((busWord_we_test _ _ _ _ false).2 rfl)).trans ?_
    simp only [busUnitOf_busWord, busOff_busWord]
    rfl
  | true =>
    refine (firstMatch_of_not_match d (mt (busWord_we_test _ _ _ _ false).1 (by decide))).trans
      ((firstMatch_of_match d ((busWord_we_test _ _ _ _ true).2 rfl)).trans ?_)
    simp only [busUnitOf_busWord, busOff_busWord]
    rfl

end BusRows

/-! ### The offsets that have a register -/

/-- How many registers a unit has (R101, R102). -/
def registerCount : BusUnit → Nat
  | .ctu => 9
  | .rdu => 8

/-- The offsets of a unit's registers: one every four bytes. -/
def registerOffsets (unit : BusUnit) : List Byte :=
  (List.range (registerCount unit)).map fun k => BitVec.ofNat 8 (4 * k)

theorem and_three_eq_zero_iff {off : Byte} : off &&& 3 = 0 ↔ off.toNat % 4 = 0 := by
  rw [← BitVec.toNat_inj, BitVec.toNat_and]
  exact iff_of_eq (congrArg (· = 0) (Nat.and_two_pow_sub_one_eq_mod off.toNat 2))

theorem namedOffset_iff {unit : BusUnit} {off : Byte} :
    namedOffset unit off = true ↔ off &&& 3 = 0 ∧ off.toNat < 4 * registerCount unit := by
  cases unit with
  | ctu =>
    have hle : off ≤ 0x20 ↔ off.toNat ≤ 0x20 := BitVec.le_def
    simp only [namedOffset, Bool.and_eq_true, beq_iff_eq, decide_eq_true_eq, and_three_eq_zero_iff,
      registerCount, hle]
    omega
  | rdu =>
    have hle : off ≤ 0x1C ↔ off.toNat ≤ 0x1C := BitVec.le_def
    simp only [namedOffset, Bool.and_eq_true, beq_iff_eq, decide_eq_true_eq, and_three_eq_zero_iff,
      registerCount, hle]
    omega

theorem namedOffset_iff_mem {unit : BusUnit} {off : Byte} :
    namedOffset unit off = true ↔ off ∈ registerOffsets unit := by
  have hcount : registerCount unit ≤ 9 := by cases unit <;> decide
  rw [namedOffset_iff, and_three_eq_zero_iff, registerOffsets, List.mem_map]
  constructor
  · rintro ⟨halign, hlt⟩
    refine ⟨off.toNat / 4, List.mem_range.2 (by omega), BitVec.eq_of_toNat_eq ?_⟩
    rw [BitVec.toNat_ofNat]
    have := off.isLt
    omega
  · rintro ⟨k, hk, rfl⟩
    have hk := List.mem_range.1 hk
    rw [BitVec.toNat_ofNat]
    omega

/-- The bus operation words of the registers: a read and a write of each. -/
def registerWords : List DispatchBits :=
  [BusUnit.ctu, .rdu].flatMap fun unit => (registerOffsets unit).flatMap fun off =>
    [busWord 2 unit false off, busWord 2 unit true off]

theorem registerRows_words :
    registerRows.map (fun r => (r.mask, r.pat)) = registerWords.map fun w => (0xFFF, w) := by
  decide

theorem mem_registerWords {unit : BusUnit} {we : Bool} {off : Byte} :
    busWord 2 unit we off ∈ registerWords ↔ namedOffset unit off = true := by
  simp only [registerWords, namedOffset_iff_mem, List.mem_flatMap]
  constructor
  · rintro ⟨u, -, o, ho, hw⟩
    obtain ⟨v, hw⟩ : ∃ v, busWord 2 unit we off = busWord 2 u v o := by
      simp only [List.mem_cons, List.not_mem_nil, or_false] at hw
      exact hw.elim (⟨_, ·⟩) (⟨_, ·⟩)
    obtain rfl : unit = u := by simpa [busUnitOf_busWord] using congrArg busUnitOf hw
    obtain rfl : off = o := by simpa [busOff_busWord] using congrArg busOff hw
    exact ho
  · intro h
    exact ⟨unit, by cases unit <;> simp, off, h, by cases we <;> simp⟩

theorem exists_register_match {unit : BusUnit} {we : Bool} {off : Byte} :
    (∃ r ∈ registerRows, busWord 2 unit we off &&& r.mask = r.pat) ↔ namedOffset unit off = true := by
  have hwords : (∃ r ∈ registerRows, busWord 2 unit we off &&& r.mask = r.pat) ↔
      ∃ q ∈ registerRows.map (fun r => (r.mask, r.pat)), busWord 2 unit we off &&& q.1 = q.2 := by
    simp only [List.mem_map, exists_exists_and_eq_and]
  rw [hwords, registerRows_words, ← mem_registerWords (we := we)]
  simp only [List.mem_map, exists_exists_and_eq_and, busWord_and_all, exists_eq_right']

theorem firstMatch_registerRows_eq_none {unit : BusUnit} {we : Bool} {off : Byte} {d : Reg} :
    firstMatch registerRows (busWord 2 unit we off) d = none ↔ namedOffset unit off = false := by
  rw [firstMatch_eq_none, ← Bool.not_eq_true, ← exists_register_match (we := we)]
  push Not
  rfl

/-! ### Decoding an aligned access -/

theorem decode_busWord_reserved {unit : BusUnit} {we : Bool} {off : Byte} {d : Reg}
    (hoff : reservedOffset unit off = true) :
    decode .bus (busWord 2 unit we off) d =
      .ok (if we then .wrReserved unit off d else .rdReserved unit off) := by
  obtain ⟨halign, hfree⟩ : off &&& 3 = 0 ∧ namedOffset unit off = false := by
    simpa [reservedOffset] using hoff
  refine decode_busWord ((firstMatch_busWord_aligned halign).trans ?_)
  rw [firstMatch_registerRows_eq_none.2 hfree]
  exact firstMatch_reservedRows

theorem decode_busWord_register {unit : BusUnit} {we : Bool} {off : Byte} {d : Reg}
    (hoff : namedOffset unit off = true) :
    ∃ r ∈ registerRows, decode .bus (busWord 2 unit we off) d = .ok (r.build (busWord 2 unit we off) d) := by
  obtain ⟨i, hi⟩ : ∃ i, firstMatch registerRows (busWord 2 unit we off) d = some i := by
    rw [← Option.ne_none_iff_exists', ne_eq, firstMatch_registerRows_eq_none, hoff]
    decide
  obtain ⟨r, hr, -, hbuild⟩ := firstMatch_eq_some hi
  refine ⟨r, hr, decode_busWord ((firstMatch_busWord_aligned (namedOffset_iff.1 hoff).1).trans ?_)⟩
  rw [hi, hbuild]
  rfl

/-! ### What a bus access answers -/

/-- The accesses to a named offset (R101, R102). -/
def isRegisterAccess : Instr → Bool
  | .rdCtuCtrl | .rdCtuStatus | .rdCtuClkdiv | .rdCtuCntA | .rdCtuCntB | .rdCtuIntr | .rdCtuInte
  | .rdCtuInts | .rdCtuConfig
  | .wrCtuCtrl _ | .wrCtuStatus _ | .wrCtuClkdiv _ | .wrCtuCntA _ | .wrCtuCntB _ | .wrCtuIntr _
  | .wrCtuInte _ | .wrCtuInts _ | .wrCtuConfig _
  | .rdRduRstatus | .rdRduSyncOffset | .rdRduSyncErrCnt | .rdRduRdErrCnt | .rdRduBoundaryCnt
  | .rdRduFrameCnt | .rdRduOutFrame | .rdRduLeftHold
  | .wrRduRstatus _ | .wrRduSyncOffset _ | .wrRduSyncErrCnt _ | .wrRduRdErrCnt _ | .wrRduBoundaryCnt _
  | .wrRduFrameCnt _ | .wrRduOutFrame _ | .wrRduLeftHold _ => true
  | _ => false

/-- What is true of the instruction of each of the 34 rows, one after another, is true of any. -/
theorem registerRows_build {p : Instr → Bool} {w : DispatchBits} {d : Reg}
    (h : registerRows.map (fun r => p (r.build w d)) = List.replicate 34 true) {r : Row}
    (hr : r ∈ registerRows) : p (r.build w d) = true :=
  List.eq_of_mem_replicate (h ▸ List.mem_map_of_mem hr)

theorem isRegisterAccess_build {r : Row} (hr : r ∈ registerRows) (w : DispatchBits) (d : Reg) :
    isRegisterAccess (r.build w d) = true :=
  registerRows_build rfl hr

theorem wellFormed_build {r : Row} (hr : r ∈ registerRows) (w : DispatchBits) (d : Reg) :
    (r.build w d).wellFormed = true :=
  registerRows_build rfl hr

/-- No master's last access was answered by a bus error. -/
def State.NoBusErr (s : State) : Prop :=
  s.ctuBus ≠ .busErr ∧ s.rduBus ≠ .busErr

theorem State.NoBusErr.respond {s : State} (hs : s.NoBusErr) (unit : BusUnit) {r : BusResp}
    (hr : r ≠ .busErr) : (s.respond unit r).NoBusErr := by
  obtain ⟨hctu, hrdu⟩ := hs
  cases unit
  · exact ⟨hr, hrdu⟩
  · exact ⟨hctu, hr⟩

theorem State.NoBusErr.readCtu {s : State} (hs : s.NoBusErr) (r : Reg) :
    Yields State.NoBusErr False (readCtu s r) :=
  .next (hs.respond .ctu nofun)

theorem State.NoBusErr.readRdu {s : State} (hs : s.NoBusErr) (r : Reg) :
    Yields State.NoBusErr False (readRdu s r) :=
  .next (hs.respond .rdu nofun)

theorem State.NoBusErr.wroteCtu {s : State} (hs : s.NoBusErr) : Yields State.NoBusErr False (wroteCtu s) :=
  .next (hs.respond .ctu nofun)

theorem State.NoBusErr.wroteRdu {s : State} (hs : s.NoBusErr) : Yields State.NoBusErr False (wroteRdu s) :=
  .next (hs.respond .rdu nofun)

theorem not_noBusErr_respond (s : State) (unit : BusUnit) : ¬(s.respond unit .busErr).NoBusErr := by
  rintro ⟨hctu, hrdu⟩
  cases unit
  · exact hctu rfl
  · exact hrdu rfl

/-- An access to a register is answered `OK`. -/
theorem exec_registerAccess {i : Instr} (hi : isRegisterAccess i = true) {s : State} (hs : s.NoBusErr) :
    Yields State.NoBusErr False (exec i s) := by
  cases i with
  | rdCtuCtrl | rdCtuStatus | rdCtuClkdiv | rdCtuCntA | rdCtuCntB | rdCtuIntr | rdCtuInte | rdCtuInts
  | rdCtuConfig =>
    exact hs.readCtu _
  | rdRduRstatus | rdRduSyncOffset | rdRduSyncErrCnt | rdRduRdErrCnt | rdRduBoundaryCnt | rdRduFrameCnt
  | rdRduOutFrame | rdRduLeftHold =>
    exact hs.readRdu _
  | wrCtuStatus d | wrCtuCntA d | wrCtuCntB d | wrCtuInts d | wrCtuConfig d => exact hs.wroteCtu
  | wrRduSyncOffset d | wrRduSyncErrCnt d | wrRduRdErrCnt d | wrRduBoundaryCnt d | wrRduFrameCnt d
  | wrRduOutFrame d | wrRduLeftHold d =>
    exact hs.wroteRdu
  | wrCtuIntr d => exact State.NoBusErr.wroteCtu (s := s.ackIntr d) hs
  | wrCtuInte d => exact State.NoBusErr.wroteCtu (s := { s with ctu.inte := _ }) hs
  | wrRduRstatus d => exact State.NoBusErr.wroteRdu (s := s.ackErrors d) hs
  | wrCtuCtrl d =>
    refine .ite (fun _ => .ite (fun _ => ?_) fun _ => ?_) fun _ => hs.wroteCtu
    · exact State.NoBusErr.wroteCtu (s := s.raise .cfgErr) hs
    · exact State.NoBusErr.wroteCtu (s := { s with ctu.run := true }) hs
  | wrCtuClkdiv d =>
    exact .ite (fun _ => State.NoBusErr.wroteCtu (s := { s with ctu.clkdiv := _ }) hs) fun _ => hs.wroteCtu
  | _ => cases hi

/-- An instruction that answers `OK` where no bus error was answered before is none of the bus errors. -/
theorem not_busError_of_yields {i : Instr} (h : Yields State.NoBusErr False (exec i State.reset))
    (unit : BusUnit) : ¬∀ s : State, exec i s = .next (s.respond unit .busErr) :=
  fun hbus => not_noBusErr_respond _ unit (h.of_next (hbus State.reset))

theorem reset_noBusErr : State.reset.NoBusErr :=
  ⟨nofun, nofun⟩

/-! ### The bus operation word, by size and alignment -/

/-- The two low bits of an offset, as R104 masks them and as a field. -/
theorem and_three_eq_field (off : Byte) : off &&& 3 = (off.extractLsb' 0 2).setWidth 8 :=
  (and_fieldMask_eq_iff (k := 0) (n := 2) (by decide) off _).2 rfl |>.trans
    (BitVec.shiftLeft_zero _)

theorem field_eq_zero_iff {off : Byte} : off.extractLsb' 0 2 = 0 ↔ off &&& 3 = 0 :=
  (and_fieldMask_eq_iff (k := 0) (n := 2) (by decide) off 0).symm

theorem half_of_not_aligned_of_not_odd {off : Byte} (halign : off &&& 3 ≠ 0) (hodd : ¬off &&& 1 = 1) :
    off &&& 3 = 2 := by
  rw [and_one_eq] at hodd
  rw [and_three_eq_field] at halign hodd ⊢
  generalize off.extractLsb' 0 2 = low at *
  revert low; decide

section BusClasses

variable {size : BitVec 2} {unit : BusUnit} {we : Bool} {off : Byte} {d : Reg}

/-- A word that is no aligned 32-bit access is a bus error (R255). -/
theorem busWord_busError (h : size ≠ 2 ∨ off &&& 3 ≠ 0) :
    ∃ i, decode .bus (busWord size unit we off) d = .ok i ∧ i.wellFormed = true ∧
      ∀ s : State, exec i s = .next (s.respond unit .busErr) := by
  by_cases hsize : size = 2
  · subst hsize
    by_cases hodd : off &&& 1 = 1
    · exact ⟨_, decode_busWord_odd hodd, beq_iff_eq.2 hodd, fun s => busError_eq s unit⟩
    · have hhalf : off &&& 3 = 2 := half_of_not_aligned_of_not_odd (h.resolve_left (not_not.2 rfl)) hodd
      exact ⟨_, decode_busWord_half hhalf, beq_iff_eq.2 hhalf, fun s => busError_eq s unit⟩
  · by_cases hnone : size = 3
    · subst hnone
      exact ⟨_, decode_busWord_noSize, rfl, fun s => busError_eq s unit⟩
    · have hnarrow : size < 2 := by
        clear h
        revert size; decide
      exact ⟨_, decode_busWord_narrow hnarrow, rfl, fun s => busError_eq s unit⟩

/-- An aligned 32-bit access is a register's or a reserved offset's, and answers `OK`. -/
theorem busWord_aligned (hoff : off &&& 3 = 0) :
    ∃ i, decode .bus (busWord 2 unit we off) d = .ok i ∧ i.wellFormed = true ∧
      Yields State.NoBusErr False (exec i State.reset) := by
  cases hnamed : namedOffset unit off with
  | true =>
    obtain ⟨r, hr, hdec⟩ := decode_busWord_register (we := we) (d := d) hnamed
    exact ⟨_, hdec, wellFormed_build hr _ _,
      exec_registerAccess (isRegisterAccess_build hr _ _) reset_noBusErr⟩
  | false =>
    have hres : reservedOffset unit off = true := by
      simp only [reservedOffset, Bool.and_eq_true, beq_iff_eq, Bool.not_eq_true']
      exact ⟨hoff, hnamed⟩
    refine ⟨_, decode_busWord_reserved hres, ?_⟩
    cases we with
    | false => exact ⟨hres, .next (reset_noBusErr.respond unit nofun)⟩
    | true => exact ⟨hres, .next (reset_noBusErr.respond unit nofun)⟩

end BusClasses

/-! ### Decoding an encoding -/

/-- The operand slot holds a draw whole. -/
theorem setWidth_operandSlot {n : Nat} (h : n ≤ 32) (v : BitVec n) : (v.setWidth 32 : Reg).setWidth n = v := by
  rw [BitVec.setWidth_setWidth_of_le v h, BitVec.setWidth_eq]

/-- A word other than `0xFFFF` passes the first row of the encode function and is taken whole by the
second. -/
theorem decode_encPass {w : Half} (hw : w ≠ 0xFFFF) (d : Reg) :
    decode .enc (w.setWidth 24) d = .ok (.encPass w) := by
  have hback : (w.setWidth 24 : DispatchBits).setWidth 16 = w := by
    rw [BitVec.setWidth_setWidth_of_le w (by decide), BitVec.setWidth_eq]
  have hsubst : ¬(w.setWidth 24 : DispatchBits) &&& 0xFFFF = 0xFFFF := by
    intro h
    have hfield := (and_fieldMask_eq_iff (k := 0) (n := 16) (by decide) _ 0xFFFF).1 h
    rw [← BitVec.setWidth_eq_extractLsb' (by decide), hback] at hfield
    exact hw hfield
  refine decode_eq_ok.2 ⟨Laws.shiftRight_setWidth (n := 16) (by decide) w, rfl, ?_⟩
  refine (firstMatch_of_not_match d hsubst).trans ((firstMatch_of_match d BitVec.and_zero).trans ?_)
  simp only [hback]

theorem decode_conv (v : BitVec 12) : decode .cap 0x1 (v.setWidth 32) = .ok (.conv v) :=
  congrArg (fun v => Decoded.ok (.conv v)) (setWidth_operandSlot (by decide) v)

theorem decode_convComplete (v : BitVec 12) : decode .cap 0x3 (v.setWidth 32) = .ok (.convComplete v) :=
  congrArg (fun v => Decoded.ok (.convComplete v)) (setWidth_operandSlot (by decide) v)

theorem decode_linkCorrupt (c : Byte) : decode .link 0x4C (c.setWidth 32) = .ok (.linkCorrupt c) :=
  congrArg (fun c => Decoded.ok (.linkCorrupt c)) (setWidth_operandSlot (by decide) c)

theorem decode_linkInsert (c : Byte) : decode .link 0x45 (c.setWidth 32) = .ok (.linkInsert c) :=
  congrArg (fun c => Decoded.ok (.linkInsert c)) (setWidth_operandSlot (by decide) c)

end Sys2Proof.Machine

namespace Sys2Proof.Proofs

open Sys2Proof.Machine

/-- Settles O45: a word with an operand in it is decoded by its fields, a draw comes back out of the operand
slot, and the word of any other row is fixed and the decoder evaluates on it. -/
theorem decodeEncodeRoundTrip : Obligations.DecodeEncodeRoundTrip := by
  intro i hi
  cases i with
  | conv v => exact decode_conv v
  | convComplete v => exact decode_convComplete v
  | linkCorrupt c => exact decode_linkCorrupt c
  | linkInsert c => exact decode_linkInsert c
  | encPass w => exact decode_encPass (bne_iff_ne.1 hi) 0
  | buserrSizeNarrow half unit we off => cases half <;> exact decode_busWord_narrow (by decide)
  | buserrSizeNone unit we off => exact decode_busWord_noSize
  | buserrAlignOdd unit we off => exact decode_busWord_odd (beq_iff_eq.1 hi)
  | buserrAlignHalf unit we off => exact decode_busWord_half (beq_iff_eq.1 hi)
  | rdReserved unit off => exact decode_busWord_reserved (we := false) hi
  | wrReserved unit off d => exact decode_busWord_reserved (we := true) hi
  | _ => dsimp only [decodeRequest, encode]; rfl

/-- Settles O46: a word is a bus error by its size or its alignment, or else answers `OK` after power-on. -/
theorem everyBusWordSelectsOneRule : Obligations.EveryBusWordSelectsOneRule := by
  intro w d hw
  obtain ⟨size, unit, we, off, rfl⟩ : ∃ size unit we off, w = busWord size unit we off :=
    ⟨_, _, _, _, eq_busWord hw⟩
  have hunit : (if (busWord size unit we off).getLsbD 9 then BusUnit.rdu else .ctu) = unit :=
    busUnitOf_busWord size unit we off
  have halign : (busWord size unit we off).extractLsb' 0 2 ≠ 0 ↔ off &&& 3 ≠ 0 := by
    rw [extractLsb'_busWord_off _ _ _ _ (by decide), ne_eq, field_eq_zero_iff]
  rw [hunit, halign, extractLsb'_busWord_size (k := 0), BitVec.extractLsb'_eq_self]
  by_cases h : size ≠ 2 ∨ off &&& 3 ≠ 0
  · obtain ⟨i, hdec, hwf, hbus⟩ := busWord_busError (unit := unit) (we := we) (d := d) h
    exact ⟨i, hdec, hwf, iff_of_true h hbus⟩
  · obtain ⟨rfl, hoff⟩ : size = 2 ∧ off &&& 3 = 0 := by simpa using h
    obtain ⟨i, hdec, hwf, hok⟩ := busWord_aligned (unit := unit) (we := we) (d := d) hoff
    exact ⟨i, hdec, hwf, iff_of_false h (not_busError_of_yields hok unit)⟩

/-- Settles O47: each class is a field the refused words have. -/
theorem reservedWordsRefused : Obligations.ReservedWordsRefused := by
  intro w d
  exact ⟨fun hw h => decode_of_reserved d hw (isReservedWord_tx h),
    fun hw h => decode_of_reserved d hw (isReservedWord_rx h),
    fun hw h => decode_of_reserved d hw (isReservedWord_link h)⟩

/-- Settles O53, by evaluating the decoder on the nine words. -/
theorem writtenOutWordsDecode : Obligations.WrittenOutWordsDecode := by
  unfold Obligations.WrittenOutWordsDecode
  decide

end Sys2Proof.Proofs
end

section
/-!
PROOFS. From a state to the instruction it runs: the encode function's rows (R91), a step with a line of the trace
(R109), and, for each agent, the one step it can take in a state, which is both what the decoder answers on the
word the state builds and what completes (R105, R106, R111).
-/

namespace Sys2Proof.Machine

/-! ### The encode function -/

theorem encWord_termWord (p : Params) : encWord p termWord = p.sentinel :=
  if_pos rfl

theorem encWord_of_ne (p : Params) {w : Half} (h : w ≠ termWord) : encWord p w = w :=
  if_neg h

theorem exec_encSubst (s : State) :
    exec .encSubst s = .next { s with encOut := encWord s.params termWord } := rfl

theorem exec_encPass (w : Half) (s : State) :
    exec (.encPass w) s = .next { s with encOut := encWord s.params w } := rfl

/-! ### A step with a line of the trace -/

/-- No dispatch word is built from the trace. -/
theorem fetchLine_trace (line : TraceLine) (s : State) (tr : List TraceLine) :
    fetchLine line { s with trace := tr } = fetchLine line s := by
  cases line with
  | row f w arg => rfl
  | agent c => cases c <;> rfl

theorem step_of_trace {s : State} {line : TraceLine} {rest : List TraceLine} (h : s.trace = line :: rest) :
    step s = State.runLine { s with trace := rest } line := by
  simp only [step, State.advance, h]

theorem State.runLine_of_ok {s : State} {line : TraceLine} {i : Instr}
    (h : decodeRequest (fetchLine line s) = .ok i) : s.runLine line = exec i s := by
  simp only [State.runLine, h]

/-! ### What the decoder answers for an agent -/

/-- What the decoder answers on the word of an agent that can take the step given, or none. -/
def decodedOf : Option Instr → Decoded
  | some i => .ok i
  | none => .bad .noRow

theorem decodedOf_eq_ok {o : Option Instr} {i : Instr} : decodedOf o = .ok i ↔ o = some i := by
  cases o <;> simp [decodedOf]

theorem decode_eq_decodedOf {f : Format} {w : DispatchBits} (d : Reg) (hwidth : w >>> formatWidth f = 0)
    (hres : isReservedWord f w = false) : decode f w d = decodedOf (firstMatch (formatRows f) w d) := by
  simp only [decode, hwidth, hres]
  cases firstMatch (formatRows f) w d <;> rfl

/-! ### The word of the receiver, field by field -/

/-- The fields of an `rx` word (R106). -/
@[ext] structure RxFields where
  rxqne : BitVec 1
  outValid : BitVec 1
  loByte : Byte
  phase : BitVec 1
  haveLo : BitVec 1
  sst : BitVec 2
  err : BitVec 1
  b : Byte

/-- The word of the fields. -/
def RxFields.word (f : RxFields) : DispatchBits :=
  (f.rxqne ++ (f.outValid ++ (f.loByte ++ (f.phase ++ (f.haveLo ++ (f.sst ++ (f.err ++ f.b))))))).setWidth 24

/-- The fields under a mask. -/
def RxFields.and (f m : RxFields) : RxFields :=
  ⟨f.rxqne &&& m.rxqne, f.outValid &&& m.outValid, f.loByte &&& m.loByte, f.phase &&& m.phase,
    f.haveLo &&& m.haveLo, f.sst &&& m.sst, f.err &&& m.err, f.b &&& m.b⟩

theorem append_inj {m n : Nat} {x x' : BitVec m} {y y' : BitVec n} (h : x ++ y = x' ++ y') :
    x = x' ∧ y = y' := by
  have hx := congrArg (BitVec.extractLsb' n m) h
  have hy := congrArg (BitVec.extractLsb' 0 n) h
  rw [BitVec.extractLsb'_append_eq_left, BitVec.extractLsb'_append_eq_left] at hx
  rw [BitVec.extractLsb'_append_eq_right, BitVec.extractLsb'_append_eq_right] at hy
  exact ⟨hx, hy⟩

theorem setWidth_inj {m n : Nat} (h : m ≤ n) {x y : BitVec m} (hxy : x.setWidth n = y.setWidth n) : x = y := by
  simpa [BitVec.setWidth_setWidth_of_le _ h] using congrArg (·.setWidth m) hxy

theorem RxFields.word_inj {f g : RxFields} (h : f.word = g.word) : f = g := by
  obtain ⟨hne, h⟩ := append_inj (setWidth_inj (by decide) h)
  obtain ⟨hov, h⟩ := append_inj h
  obtain ⟨hlo, h⟩ := append_inj h
  obtain ⟨hphase, h⟩ := append_inj h
  obtain ⟨hhave, h⟩ := append_inj h
  obtain ⟨hsst, h⟩ := append_inj h
  obtain ⟨herr, hb⟩ := append_inj h
  exact RxFields.ext hne hov hlo hphase hhave hsst herr hb

theorem RxFields.word_and (f m : RxFields) : f.word &&& m.word = (f.and m).word := by
  simp only [RxFields.word, RxFields.and, ← BitVec.setWidth_and, BitVec.and_append]

/-- A mask and a pattern match a word where they match each field. -/
theorem RxFields.match_iff (f m p : RxFields) : f.word &&& m.word = p.word ↔ f.and m = p := by
  rw [RxFields.word_and]
  exact ⟨RxFields.word_inj, congrArg RxFields.word⟩

/-- A row of format `rx`: its mask, its pattern and its instruction. -/
def rxRow (mask pat : RxFields) (i : Instr) : Row :=
  ⟨mask.word, pat.word, fun _ _ => i⟩

/-- The mask and the pattern of every row, written out by field. -/
theorem rxRows_fields : rxRows =
    [ rxRow ⟨1, 1, 0x00, 0, 0, 3, 1, 0xFF⟩ ⟨1, 0, 0x00, 0, 0, 0, 0, 0xFF⟩ .syncHuntFf
    , rxRow ⟨1, 1, 0x00, 0, 0, 3, 1, 0x00⟩ ⟨1, 0, 0x00, 0, 0, 0, 0, 0x00⟩ .syncHuntOther
    , rxRow ⟨1, 1, 0x00, 0, 0, 3, 1, 0xFF⟩ ⟨1, 0, 0x00, 0, 0, 1, 0, 0xFF⟩ .syncLock
    , rxRow ⟨1, 1, 0x00, 0, 0, 3, 1, 0x00⟩ ⟨1, 0, 0x00, 0, 0, 1, 0, 0x00⟩ .syncResume
    , rxRow ⟨1, 1, 0x00, 0, 0, 2, 1, 0x00⟩ ⟨1, 0, 0x00, 0, 0, 0, 1, 0x00⟩ .syncErrEvent
    , rxRow ⟨1, 1, 0x00, 0, 1, 3, 1, 0x00⟩ ⟨1, 0, 0x00, 0, 0, 2, 0, 0x00⟩ .decFirst
    , rxRow ⟨1, 1, 0x00, 0, 1, 3, 1, 0x00⟩ ⟨1, 0, 0x00, 0, 0, 2, 1, 0x00⟩ .decErrEmpty
    , rxRow ⟨1, 1, 0xFF, 0, 1, 3, 1, 0xFF⟩ ⟨1, 0, 0xFF, 0, 1, 2, 0, 0xFF⟩ .decBoundary
    , rxRow ⟨1, 1, 0x00, 1, 1, 3, 1, 0x00⟩ ⟨1, 0, 0x00, 0, 1, 2, 0, 0x00⟩ .decLeft
    , rxRow ⟨1, 1, 0x00, 1, 1, 3, 1, 0x00⟩ ⟨1, 0, 0x00, 1, 1, 2, 0, 0x00⟩ .decRight
    , rxRow ⟨1, 1, 0x00, 0, 1, 3, 1, 0x00⟩ ⟨1, 0, 0x00, 0, 1, 2, 1, 0x00⟩ .decErrShort ] :=
  rfl

/-- Bit `ERR`, from the head of `RXQ`. -/
def headErr : Option RxEvent → BitVec 1
  | some .err => 1
  | some (.byte _) | none => 0

/-- Field `B`, from the head of `RXQ`. -/
def headByte : Option RxEvent → Byte
  | some (.byte b) => b
  | some .err | none => 0

/-- The fields of the word the receiver builds, given the head of `RXQ`. -/
def Rdu.rxFields (r : Rdu) (e : Option RxEvent) : RxFields :=
  ⟨BitVec.ofBool e.isSome, BitVec.ofBool r.outValid, r.loByte, BitVec.ofBool (phaseBit r.phase),
    BitVec.ofBool r.haveLo, sstCode r.sst, headErr e, headByte e⟩

theorem rxHeadBits_eq (q : List RxEvent) : rxHeadBits q = headErr q.head? ++ headByte q.head? := by
  cases q with
  | nil => rfl
  | cons e rest =>
    cases e with
    | byte b => rfl
    | err => exact (by decide : (0x100 : BitVec 9) = (1 : BitVec 1) ++ (0 : Byte))

theorem rxWord_eq (s : State) : rxWord s = (s.rdu.rxFields s.rdu.rxq.head?).word := by
  have hne : (!s.rdu.rxq.isEmpty) = s.rdu.rxq.head?.isSome := by cases s.rdu.rxq <;> rfl
  rw [rxWord, rxHeadBits_eq, hne]
  rfl

/-- The row of an event, the output register being empty (R180 to R184, R200 to R207). -/
def Rdu.rowOn (r : Rdu) : RxEvent → Instr
  | .byte b =>
    match r.sst with
    | .hunt => if isTermByte b then .syncHuntFf else .syncHuntOther
    | .sawFf => if isTermByte b then .syncLock else .syncResume
    | .synced =>
      if r.haveLo then
        if isBoundary r.loByte b then .decBoundary
        else match r.phase with
          | .left => .decLeft
          | .right => .decRight
      else .decFirst
  | .err =>
    match r.sst with
    | .hunt | .sawFf => .syncErrEvent
    | .synced => if r.haveLo then .decErrShort else .decErrEmpty

/-- What the rows ask of the fields of an event's word. -/
theorem rxFields_match_iff {r : Rdu} {e : Option RxEvent} {m p : RxFields} :
    (r.rxFields e).word &&& m.word = p.word ↔
      BitVec.ofBool e.isSome &&& m.rxqne = p.rxqne ∧ BitVec.ofBool r.outValid &&& m.outValid = p.outValid ∧
        r.loByte &&& m.loByte = p.loByte ∧ BitVec.ofBool (phaseBit r.phase) &&& m.phase = p.phase ∧
        BitVec.ofBool r.haveLo &&& m.haveLo = p.haveLo ∧ sstCode r.sst &&& m.sst = p.sst ∧
        headErr e &&& m.err = p.err ∧ headByte e &&& m.b = p.b := by
  rw [RxFields.match_iff]
  cases p
  simp only [RxFields.and, Rdu.rxFields, RxFields.mk.injEq]

theorem and_allOnes_byte (b : Byte) : b &&& 0xFF#8 = b :=
  BitVec.and_allOnes

section RxRow

variable {r : Rdu} (h : r.outValid = false) (d : Reg)
include h

theorem firstMatch_rx_err : firstMatch rxRows (r.rxFields (some .err)).word d = some (r.rowOn .err) := by
  cases hsst : r.sst with
  | hunt | sawFf =>
    simp [rxRows_fields, rxRow, firstMatch, rxFields_match_iff, h, hsst, headErr, Rdu.rowOn, sstCode]
  | synced =>
    cases hlo : r.haveLo <;>
      simp [rxRows_fields, rxRow, firstMatch, rxFields_match_iff, h, hsst, hlo, headErr, Rdu.rowOn, sstCode]

theorem firstMatch_rx_byte (b : Byte) :
    firstMatch rxRows (r.rxFields (some (.byte b))).word d = some (r.rowOn (.byte b)) := by
  cases hsst : r.sst with
  | hunt | sawFf =>
    simp [rxRows_fields, rxRow, firstMatch, rxFields_match_iff, h, hsst, headErr, headByte, Rdu.rowOn,
      sstCode, isTermByte, and_allOnes_byte, apply_ite]
  | synced =>
    cases hlo : r.haveLo with
    | false =>
      simp [rxRows_fields, rxRow, firstMatch, rxFields_match_iff, h, hsst, hlo, headErr, Rdu.rowOn, sstCode]
    | true =>
      cases hp : r.phase <;>
        simp [rxRows_fields, rxRow, firstMatch, rxFields_match_iff, h, hsst, hlo, hp, headErr, headByte,
          Rdu.rowOn, sstCode, isBoundary, and_allOnes_byte, phaseBit, apply_ite]

end RxRow

theorem firstMatch_rx_of_outValid {r : Rdu} (e : Option RxEvent) (h : r.outValid = true) (d : Reg) :
    firstMatch rxRows (r.rxFields e).word d = none := by
  simp [rxRows_fields, rxRow, firstMatch, rxFields_match_iff, h]

theorem firstMatch_rx_none (r : Rdu) (d : Reg) : firstMatch rxRows (r.rxFields none).word d = none := by
  simp [rxRows_fields, rxRow, firstMatch, rxFields_match_iff]

theorem isReservedWord_rxFields (r : Rdu) (e : Option RxEvent) :
    isReservedWord .rx (r.rxFields e).word = false := by
  refine beq_eq_false_iff_ne.2 (mt (rxFields_match_iff (m := ⟨0, 0, 0, 0, 0, 3, 0, 0⟩)
    (p := ⟨0, 0, 0, 0, 0, 3, 0, 0⟩)).1 ?_)
  cases r.sst <;> simp [sstCode]

/-- The receiver's step in a state (R185, R205). -/
def State.rxStep? (s : State) : Option Instr :=
  if s.rdu.outValid then none else s.rdu.rxq.head?.map s.rdu.rowOn

theorem decode_rxWord (s : State) (d : Reg) : decode .rx (rxWord s) d = decodedOf s.rxStep? := by
  have hwidth : rxWord s >>> 23 = 0 := Laws.shiftRight_setWidth (by decide) _
  have hres : isReservedWord .rx (rxWord s) = false := rxWord_eq s ▸ isReservedWord_rxFields _ _
  refine (decode_eq_decodedOf d hwidth hres).trans (congrArg decodedOf ?_)
  rw [rxWord_eq, State.rxStep?]
  cases h : s.rdu.outValid with
  | true => exact firstMatch_rx_of_outValid _ h d
  | false =>
    rcases s.rdu.rxq.head? with _ | _ | _
    · exact firstMatch_rx_none _ d
    · exact firstMatch_rx_byte h d _
    · exact firstMatch_rx_err h d

/-! ### The words of the other agents -/

/-- The capture agent's step in a state (R125, R130, R133). -/
def State.capStep? (s : State) (v : BitVec 12) : Option Instr :=
  if s.ctu.run then some (if s.capLast then .convComplete v else .conv v) else none

theorem decode_capWord (s : State) (v : BitVec 12) :
    decode .cap (capWord s) (v.setWidth 32) = decodedOf (s.capStep? v) := by
  simp only [capWord, State.capStep?]
  cases s.ctu.run with
  | false => cases s.capLast <;> rfl
  | true =>
    cases s.capLast with
    | false => exact decode_conv v
    | true => exact decode_convComplete v

/-- The transmitter's step in a state (R150 to R156, R158). -/
def State.txStep? (s : State) : Option Instr :=
  match s.ctu.txSt with
  | .idle => some (if s.ctu.ready.a then .txSelectA else if s.ctu.ready.b then .txSelectB else .txPollNone)
  | .dataLo => if s.uqFull then none else some .txLo
  | .dataHi => if s.uqFull then none else some (if s.txLast then .txHiLast else .txHi)
  | .term0 => if s.uqFull then none else some .txTerm0
  | .term1 => if s.uqFull then none else some .txTerm1

theorem decode_txDispatch (s : State) : decode .tx (txDispatch s) 0 = decodedOf s.txStep? := by
  simp only [txDispatch, State.txStep?]
  generalize s.txLast = last, s.uqFull = full, s.ctu.ready.a = a, s.ctu.ready.b = b
  cases s.ctu.txSt <;> (revert last full a b; decide)

/-- The UART's step in a state (R165). -/
def State.uartStep? (s : State) : Option Instr :=
  if s.ctu.uq.isEmpty then none else some .uartShift

theorem decode_uartWord (s : State) : decode .uart (uartWord s) 0 = decodedOf s.uartStep? := by
  simp only [uartWord, State.uartStep?]
  cases s.ctu.uq.isEmpty <;> rfl

/-- The sink's step in a state (R214). -/
def State.sinkStep? (s : State) : Option Instr :=
  if s.rdu.outValid then some .sinkAccept else none

theorem decode_sinkWord (s : State) : decode .sink (sinkWord s) 0 = decodedOf s.sinkStep? := by
  simp only [sinkWord, State.sinkStep?]
  cases s.rdu.outValid <;> rfl

/-- The link's step of a given code in a state, with the draw `c` (R80 to R83). -/
def State.linkStep? (s : State) (code : LinkCode) (c : Byte) : Option Instr :=
  match code with
  | .deliver => if s.wire.isEmpty then none else some .linkDeliver
  | .timeout =>
    if s.wire.isEmpty then some .linkTimeout
    else if s.params.linkLossy then some .linkTimeoutLossy else none
  | .skip => if !s.rdu.rxOpen && s.rdu.rxq.isEmpty && !s.wire.isEmpty then some .linkSkip else none
  | .drop => if s.params.linkLossy && !s.wire.isEmpty then some .linkDrop else none
  | .corrupt => if s.params.linkLossy && !s.wire.isEmpty then some (.linkCorrupt c) else none
  | .insert => if s.params.linkLossy then some (.linkInsert c) else none

/-- A `link` word is made of four bits of the state and the code alone, so the decoder evaluates on each. -/
theorem decode_linkWord_slot (s : State) (code : LinkCode) (d : Reg) :
    decode .link (linkWord code s) d = decodedOf (s.linkStep? code (d.setWidth 8)) := by
  simp only [linkWord, State.linkStep?]
  generalize s.params.linkLossy = lossy, s.rdu.rxq.isEmpty = rxqe, s.rdu.rxOpen = rxOpen,
    s.wire.isEmpty = idle
  cases code <;> cases lossy <;> cases rxqe <;> cases rxOpen <;> cases idle <;> rfl

theorem decode_linkWord (s : State) (code : LinkCode) (c : Byte) :
    decode .link (linkWord code s) (c.setWidth 32) = decodedOf (s.linkStep? code c) := by
  rw [decode_linkWord_slot, setWidth_operandSlot (by decide)]

/-- The step of a generic trace line's agent in a state (R105, R109). -/
def State.choiceStep? (s : State) : Choice → Option Instr
  | .conv v => s.capStep? v
  | .tx => s.txStep?
  | .uart => s.uartStep?
  | .link code c => s.linkStep? code c
  | .rx => s.rxStep?
  | .sink => s.sinkStep?

theorem decodeRequest_choiceRequest (c : Choice) (s : State) :
    decodeRequest (choiceRequest c s) = decodedOf (s.choiceStep? c) := by
  cases c with
  | conv v => exact decode_capWord s v
  | tx => exact decode_txDispatch s
  | uart => exact decode_uartWord s
  | link code c => exact decode_linkWord s code c
  | rx => exact decode_rxWord s 0
  | sink => exact decode_sinkWord s

/-! ### The step an agent's word picks is enabled -/

section Enabled

variable {s : State} {i : Instr}

theorem enabled_of_capStep? {v : BitVec 12} (hidx : s.ctu.idx < bufLen s.params) (h : s.capStep? v = some i) :
    s.enabled i := by
  unfold State.capStep? at h
  split at h
  · next hrun =>
    have hcap := State.captureSample?_of_lt v hidx
    cases hlast : s.capLast with
    | false =>
      obtain rfl : Instr.conv v = i := by simpa [hlast] using h
      exact ⟨_, (onlyWhen_of ⟨hrun, hlast⟩).trans (by rw [hcap])⟩
    | true =>
      obtain rfl : Instr.convComplete v = i := by simpa [hlast] using h
      exact ⟨_, (onlyWhen_of ⟨hrun, hlast⟩).trans (by rw [hcap])⟩
  · cases h

theorem enabled_of_txStep? (htxI : s.ctu.txI < bufLen s.params) (h : s.txStep? = some i) : s.enabled i := by
  cases hst : s.ctu.txSt with
  | idle =>
    cases ha : s.ctu.ready.a with
    | true =>
      obtain rfl : Instr.txSelectA = i := by simpa [State.txStep?, hst, ha] using h
      exact ⟨_, onlyWhen_of ⟨hst, ha⟩⟩
    | false =>
      cases hb : s.ctu.ready.b with
      | true =>
        obtain rfl : Instr.txSelectB = i := by simpa [State.txStep?, hst, ha, hb] using h
        exact ⟨_, onlyWhen_of ⟨hst, ha, hb⟩⟩
      | false =>
        obtain rfl : Instr.txPollNone = i := by simpa [State.txStep?, hst, ha, hb] using h
        exact ⟨_, onlyWhen_of ⟨hst, ha, hb⟩⟩
  | dataLo =>
    obtain ⟨hroom, rfl⟩ : s.uqFull = false ∧ Instr.txLo = i := by simpa [State.txStep?, hst] using h
    exact ⟨_, (onlyWhen_of ⟨hst, hroom⟩).trans (by rw [State.bufRead?_of_lt htxI])⟩
  | dataHi =>
    cases hlast : s.txLast with
    | false =>
      obtain ⟨hroom, rfl⟩ : s.uqFull = false ∧ Instr.txHi = i := by simpa [State.txStep?, hst, hlast] using h
      exact ⟨_, (onlyWhen_of ⟨hst, hroom⟩).trans (onlyWhen_of hlast)⟩
    | true =>
      obtain ⟨hroom, rfl⟩ : s.uqFull = false ∧ Instr.txHiLast = i := by
        simpa [State.txStep?, hst, hlast] using h
      exact ⟨_, (onlyWhen_of ⟨hst, hroom⟩).trans (onlyWhen_of hlast)⟩
  | term0 =>
    obtain ⟨hroom, rfl⟩ : s.uqFull = false ∧ Instr.txTerm0 = i := by simpa [State.txStep?, hst] using h
    exact ⟨_, onlyWhen_of ⟨hst, hroom⟩⟩
  | term1 =>
    obtain ⟨hroom, rfl⟩ : s.uqFull = false ∧ Instr.txTerm1 = i := by simpa [State.txStep?, hst] using h
    exact ⟨_, onlyWhen_of ⟨hst, hroom⟩⟩

theorem enabled_of_uartStep? (h : s.uartStep? = some i) : s.enabled i := by
  cases huq : s.ctu.uq with
  | nil => simp [State.uartStep?, huq] at h
  | cons x rest =>
    obtain rfl : Instr.uartShift = i := by simpa [State.uartStep?, huq] using h
    exact ⟨{ s with wire := s.wire ++ [x], ctu.uq := rest }, by simp only [exec, execUartShift, huq]⟩

theorem enabled_of_sinkStep? (h : s.sinkStep? = some i) : s.enabled i := by
  unfold State.sinkStep? at h
  split at h
  · next hout =>
    obtain rfl := Option.some.inj h
    exact ⟨_, onlyWhen_of hout⟩
  · cases h

theorem enabled_of_linkStep? {code : LinkCode} {c : Byte} (h : s.linkStep? code c = some i) : s.enabled i := by
  cases code with
  | deliver =>
    cases hwire : s.wire with
    | nil => simp [State.linkStep?, hwire] at h
    | cons x rest =>
      obtain rfl : Instr.linkDeliver = i := by simpa [State.linkStep?, hwire] using h
      exact ⟨s.popWire.pushRxq (.byte x), by simp only [exec, execLinkDeliver, hwire]⟩
  | timeout =>
    by_cases hwire : s.wire = []
    · obtain rfl : Instr.linkTimeout = i := by simpa [State.linkStep?, hwire] using h
      exact ⟨_, onlyWhen_of hwire⟩
    · obtain ⟨hlossy, rfl⟩ : s.params.linkLossy = true ∧ Instr.linkTimeoutLossy = i := by
        simpa [State.linkStep?, hwire] using h
      exact ⟨_, onlyWhen_of hlossy⟩
  | skip =>
    obtain ⟨⟨⟨hopen, hrxq⟩, hwire⟩, rfl⟩ :
        ((s.rdu.rxOpen = false ∧ s.rdu.rxq = []) ∧ s.wire ≠ []) ∧ Instr.linkSkip = i := by
      simpa [State.linkStep?] using h
    exact ⟨_, onlyWhen_of ⟨hopen, hrxq, hwire⟩⟩
  | drop =>
    obtain ⟨hguard, rfl⟩ : (s.params.linkLossy = true ∧ s.wire ≠ []) ∧ Instr.linkDrop = i := by
      simpa [State.linkStep?] using h
    exact ⟨_, onlyWhen_of hguard⟩
  | corrupt =>
    obtain ⟨hguard, rfl⟩ : (s.params.linkLossy = true ∧ s.wire ≠ []) ∧ Instr.linkCorrupt c = i := by
      simpa [State.linkStep?] using h
    exact ⟨_, onlyWhen_of hguard⟩
  | insert =>
    obtain ⟨hlossy, rfl⟩ : s.params.linkLossy = true ∧ Instr.linkInsert c = i := by
      simpa [State.linkStep?] using h
    exact ⟨_, onlyWhen_of hlossy⟩

theorem enabled_rowOn_byte {b : Byte} {rest : List RxEvent} (ho : s.rdu.outValid = false)
    (hq : s.rdu.rxq = .byte b :: rest) : s.enabled (s.rdu.rowOn (.byte b)) := by
  cases hst : s.rdu.sst with
  | hunt =>
    cases hb : isTermByte b <;> simp only [Rdu.rowOn, hst, hb] <;>
      exact ⟨_, (onByte_of ho hq).trans (onlyWhen_of ⟨hst, by simp [hb]⟩)⟩
  | sawFf =>
    cases hb : isTermByte b <;> simp only [Rdu.rowOn, hst, hb] <;>
      exact ⟨_, (onByte_of ho hq).trans (onlyWhen_of ⟨hst, by simp [hb]⟩)⟩
  | synced =>
    cases hlo : s.rdu.haveLo with
    | false =>
      simp only [Rdu.rowOn, hst, hlo]
      exact ⟨_, (onByte_of ho hq).trans (onlyWhen_of ⟨hst, hlo⟩)⟩
    | true =>
      cases hpair : isBoundary s.rdu.loByte b with
      | true =>
        simp only [Rdu.rowOn, hst, hlo, hpair]
        exact ⟨_, (onByte_of ho hq).trans ((onlyWhen_of ⟨hst, hlo⟩).trans (onlyWhen_of hpair))⟩
      | false =>
        cases hphase : s.rdu.phase <;> simp only [Rdu.rowOn, hst, hlo, hpair, hphase] <;>
          exact ⟨_, (onByte_of ho hq).trans ((onlyWhen_of ⟨hst, hlo⟩).trans (onlyWhen_of ⟨hphase, hpair⟩))⟩

theorem enabled_rowOn_err {rest : List RxEvent} (ho : s.rdu.outValid = false) (hq : s.rdu.rxq = .err :: rest) :
    s.enabled (s.rdu.rowOn .err) := by
  cases hst : s.rdu.sst with
  | hunt | sawFf =>
    simp only [Rdu.rowOn, hst]
    exact ⟨_, (onErr_of ho hq).trans (onlyWhen_of (by simp [hst]))⟩
  | synced =>
    cases hlo : s.rdu.haveLo <;> simp only [Rdu.rowOn, hst, hlo] <;>
      exact ⟨_, (onErr_of ho hq).trans (onlyWhen_of ⟨hst, hlo⟩)⟩

/-- The receiver takes a step exactly where the output register is empty and an event waits. -/
theorem rxStep?_eq_some :
    s.rxStep? = some i ↔
      s.rdu.outValid = false ∧ ∃ e rest, s.rdu.rxq = e :: rest ∧ s.rdu.rowOn e = i := by
  cases ho : s.rdu.outValid <;> cases hq : s.rdu.rxq <;> simp [State.rxStep?, ho, hq]

theorem enabled_of_rxStep? (h : s.rxStep? = some i) : s.enabled i := by
  obtain ⟨ho, e, rest, hq, rfl⟩ := rxStep?_eq_some.1 h
  cases e with
  | byte b => exact enabled_rowOn_byte ho hq
  | err => exact enabled_rowOn_err ho hq

theorem enabled_of_choiceStep? {c : Choice} (hidx : s.ctu.idx < bufLen s.params)
    (htxI : s.ctu.txI < bufLen s.params) (h : s.choiceStep? c = some i) : s.enabled i := by
  cases c with
  | conv v => exact enabled_of_capStep? hidx h
  | tx => exact enabled_of_txStep? htxI h
  | uart => exact enabled_of_uartStep? h
  | link code c => exact enabled_of_linkStep? h
  | rx => exact enabled_of_rxStep? h
  | sink => exact enabled_of_sinkStep? h

end Enabled

/-! ### An enabled step is the one an agent's word picks -/

theorem execUartShift_eq_next {s t : State} (h : execUartShift s = .next t) : s.ctu.uq ≠ [] := by
  intro hq
  simp [execUartShift, hq] at h

theorem execLinkDeliver_eq_next {s t : State} (h : execLinkDeliver s = .next t) : s.wire ≠ [] := by
  intro hwire
  simp [execLinkDeliver, hwire] at h

theorem capStep?_of_exec {i : Instr} {s t : State} (hi : (encode i).fmt = .cap) (h : exec i s = .next t) :
    ∃ v, s.capStep? v = some i := by
  cases i with
  | conv v | convComplete v =>
    obtain ⟨⟨hrun, hlast⟩, -⟩ := onlyWhen_eq_next.1 h
    exact ⟨v, by simp [State.capStep?, hrun, hlast]⟩
  | _ => cases hi

theorem txStep?_of_exec {i : Instr} {s t : State} (hi : (encode i).fmt = .tx) (h : exec i s = .next t) :
    s.txStep? = some i := by
  cases i with
  | txSelectA =>
    obtain ⟨⟨hst, ha⟩, -⟩ := onlyWhen_eq_next.1 h
    simp [State.txStep?, hst, ha]
  | txSelectB | txPollNone =>
    obtain ⟨⟨hst, ha, hb⟩, -⟩ := onlyWhen_eq_next.1 h
    simp [State.txStep?, hst, ha, hb]
  | txLo | txTerm0 | txTerm1 =>
    obtain ⟨⟨hst, hroom⟩, -⟩ := whenSending_eq_next.1 h
    simp [State.txStep?, hst, hroom]
  | txHi | txHiLast =>
    obtain ⟨⟨hst, hroom⟩, h⟩ := whenSending_eq_next.1 h
    obtain ⟨hlast, -⟩ := onlyWhen_eq_next.1 h
    simp [State.txStep?, hst, hroom, hlast]
  | _ => cases hi

theorem uartStep?_of_exec {i : Instr} {s t : State} (hi : (encode i).fmt = .uart) (h : exec i s = .next t) :
    s.uartStep? = some i := by
  cases i with
  | uartShift => simp [State.uartStep?, execUartShift_eq_next h]
  | _ => cases hi

/-- A timeout on an idle line is LINK_TIMEOUT's, whose row comes first (R105). -/
theorem linkStep?_of_exec {i : Instr} {s t : State} (hi : (encode i).fmt = .link) (h : exec i s = .next t)
    (hidle : i = .linkTimeoutLossy → s.wire ≠ []) : ∃ code c, s.linkStep? code c = some i := by
  cases i with
  | linkDeliver => exact ⟨.deliver, 0, by simp [State.linkStep?, execLinkDeliver_eq_next h]⟩
  | linkTimeout =>
    obtain ⟨hwire, -⟩ := onlyWhen_eq_next.1 h
    exact ⟨.timeout, 0, by simp [State.linkStep?, hwire]⟩
  | linkTimeoutLossy =>
    obtain ⟨hlossy, -⟩ := onlyWhen_eq_next.1 h
    exact ⟨.timeout, 0, by simp [State.linkStep?, hlossy, hidle rfl]⟩
  | linkSkip =>
    obtain ⟨⟨hopen, hrxq, hwire⟩, -⟩ := onlyWhen_eq_next.1 h
    exact ⟨.skip, 0, by simp [State.linkStep?, hopen, hrxq, hwire]⟩
  | linkDrop =>
    obtain ⟨⟨hlossy, hwire⟩, -⟩ := onlyWhen_eq_next.1 h
    exact ⟨.drop, 0, by simp [State.linkStep?, hlossy, hwire]⟩
  | linkCorrupt c =>
    obtain ⟨⟨hlossy, hwire⟩, -⟩ := onlyWhen_eq_next.1 h
    exact ⟨.corrupt, c, by simp [State.linkStep?, hlossy, hwire]⟩
  | linkInsert c =>
    obtain ⟨hlossy, -⟩ := onlyWhen_eq_next.1 h
    exact ⟨.insert, c, by simp [State.linkStep?, hlossy]⟩
  | _ => cases hi

theorem rxStep?_of_exec {i : Instr} {s t : State} (hi : (encode i).fmt = .rx) (h : exec i s = .next t) :
    s.rxStep? = some i := by
  rw [rxStep?_eq_some]
  cases i with
  | syncHuntFf =>
    obtain ⟨b, rest, ho, hq, ⟨hst, hb⟩, -⟩ := syncByteStep_eq_next.1 h
    exact ⟨ho, _, rest, hq, by simp [Rdu.rowOn, hst, hb]⟩
  | syncHuntOther | syncResume =>
    obtain ⟨b, rest, ho, hq, ⟨hst, hb⟩, -⟩ := syncByteStep_eq_next.1 h
    have hb : isTermByte b = false := by simpa using hb
    exact ⟨ho, _, rest, hq, by simp [Rdu.rowOn, hst, hb]⟩
  | syncLock =>
    obtain ⟨b, rest, ho, hq, h⟩ := onByte_eq_next.1 h
    obtain ⟨⟨hst, hb⟩, -⟩ := onlyWhen_eq_next.1 h
    exact ⟨ho, _, rest, hq, by simp [Rdu.rowOn, hst, hb]⟩
  | decFirst =>
    obtain ⟨b, rest, ho, hq, h⟩ := onByte_eq_next.1 h
    obtain ⟨⟨hst, hlo⟩, -⟩ := onlyWhen_eq_next.1 h
    exact ⟨ho, _, rest, hq, by simp [Rdu.rowOn, hst, hlo]⟩
  | syncErrEvent =>
    obtain ⟨rest, ho, hq, h⟩ := onErr_eq_next.1 h
    obtain ⟨hne, -⟩ := onlyWhen_eq_next.1 h
    refine ⟨ho, _, rest, hq, ?_⟩
    cases hst : s.rdu.sst with
    | hunt | sawFf => simp [Rdu.rowOn, hst]
    | synced => exact absurd hst hne
  | decErrEmpty | decErrShort =>
    obtain ⟨rest, ho, hq, h⟩ := onErr_eq_next.1 h
    obtain ⟨⟨hst, hlo⟩, -⟩ := onlyWhen_eq_next.1 h
    exact ⟨ho, _, rest, hq, by simp [Rdu.rowOn, hst, hlo]⟩
  | decBoundary =>
    obtain ⟨b, rest, ho, hq, ⟨hst, hlo⟩, h⟩ := onPair_eq_next.1 h
    obtain ⟨hpair, -⟩ := onlyWhen_eq_next.1 h
    exact ⟨ho, _, rest, hq, by simp [Rdu.rowOn, hst, hlo, hpair]⟩
  | decLeft | decRight =>
    obtain ⟨b, rest, ho, hq, ⟨hst, hlo⟩, h⟩ := onPair_eq_next.1 h
    obtain ⟨⟨hphase, hpair⟩, -⟩ := onlyWhen_eq_next.1 h
    exact ⟨ho, _, rest, hq, by simp [Rdu.rowOn, hst, hlo, hpair, hphase]⟩
  | _ => cases hi

theorem sinkStep?_of_exec {i : Instr} {s t : State} (hi : (encode i).fmt = .sink) (h : exec i s = .next t) :
    s.sinkStep? = some i := by
  cases i with
  | sinkAccept =>
    obtain ⟨hout, -⟩ := onlyWhen_eq_next.1 h
    simp [State.sinkStep?, hout]
  | _ => cases hi

/-- The formats of the agents are those of the generic lines. -/
theorem choiceStep?_of_exec {i : Instr} {s t : State} (h : exec i s = .next t)
    (hbus : (encode i).fmt ≠ .bus) (hrst : (encode i).fmt ≠ .rst) (henc : (encode i).fmt ≠ .enc)
    (hidle : i = .linkTimeoutLossy → s.wire ≠ []) : ∃ c, s.choiceStep? c = some i := by
  cases hf : (encode i).fmt with
  | cap =>
    obtain ⟨v, hv⟩ := capStep?_of_exec hf h
    exact ⟨.conv v, hv⟩
  | tx => exact ⟨.tx, txStep?_of_exec hf h⟩
  | uart => exact ⟨.uart, uartStep?_of_exec hf h⟩
  | link =>
    obtain ⟨code, c, hc⟩ := linkStep?_of_exec hf h hidle
    exact ⟨.link code c, hc⟩
  | rx => exact ⟨.rx, rxStep?_of_exec hf h⟩
  | sink => exact ⟨.sink, sinkStep?_of_exec hf h⟩
  | bus => exact absurd hf hbus
  | rst => exact absurd hf hrst
  | enc => exact absurd hf henc

end Sys2Proof.Machine

namespace Sys2Proof.Proofs

open Sys2Proof.Machine

/-- Settles O9: the function on `0xFFFF`, and on any other word. -/
theorem encRowsGiveEnc : Obligations.EncRowsGiveEnc := by
  intro s
  refine ⟨?_, fun w hw => ?_⟩
  · rw [exec_encSubst, encWord_termWord]
  · rw [exec_encPass, encWord_of_ne s.params hw]

/-- Settles O51: the line's word is the same with the line taken off, since no word is built from the trace. -/
theorem stepRunsDecodedLine : Obligations.StepRunsDecodedLine := by
  intro s line rest htr
  rw [step_of_trace htr, ← fetchLine_trace line s rest]
  exact ⟨fun i hi => State.runLine_of_ok hi, fun e he => State.runLine_of_bad he⟩

/-- Settles O48: the decoder's answer is the step the agent can take, if any, and that step's guard holds. -/
theorem dispatchedRowIsEnabled : Obligations.DispatchedRowIsEnabled := by
  intro c s i hidx htxI hdec
  rw [decodeRequest_choiceRequest, decodedOf_eq_ok] at hdec
  exact enabled_of_choiceStep? hidx htxI hdec

/-- Settles O49: the guard of a step that completes is what the agent's word says, and the decoder answers
with that step. -/
theorem enabledStepIsDispatched : Obligations.EnabledStepIsDispatched := by
  intro i s t h hbus hrst henc hidle
  obtain ⟨c, hc⟩ := choiceStep?_of_exec h hbus hrst henc hidle
  exact ⟨c, by rw [decodeRequest_choiceRequest, hc]; rfl⟩

end Sys2Proof.Proofs
end

section
/-!
PROOFS. The interleave of the channels and the alternation of the fills (R122, R123, R131, R137), as an invariant
of the CTU: only a capture and a CTU reset write its elements, and a fill ends where an even number of cells has
been written.
-/

namespace Sys2Proof.Machine

/-! ### The channel of a cell and the lead of buffer A -/

/-- The channel of cell `i` (R123). -/
def channelOf (i : Nat) : Channel :=
  if i % 2 = 0 then .ch0 else .ch1

theorem channelOf_of_even {i : Nat} (h : i % 2 = 0) : channelOf i = .ch0 := if_pos h

theorem channelOf_of_odd {i : Nat} (h : i % 2 = 1) : channelOf i = .ch1 :=
  if_neg (by omega)

/-- The converter's alternation (R122) is the alternation of the cells' channels (R123). -/
theorem otherChannel_channelOf (i : Nat) : otherChannel (channelOf i) = channelOf (i + 1) := by
  rcases Nat.mod_two_eq_zero_or_one i with heven | hodd
  · rw [channelOf_of_even heven, channelOf_of_odd (by omega)]; rfl
  · rw [channelOf_of_odd hodd, channelOf_of_even (by omega)]; rfl

/-- By how much `CNT[A]` is ahead of `CNT[B]` while buffer `x` is being filled: A is filled first (R137). -/
def leadOfA : Buf → Reg
  | .a => 0
  | .b => 1

/-- A completion counts the fill of `x` and turns to the other buffer; the lead follows. -/
theorem leadOfA_of_completion {cnt : PerBuf Reg} (x : Buf) (h : cnt.a = cnt.b + leadOfA x) :
    (cnt.set x (cnt.get x + 1)).a = (cnt.set x (cnt.get x + 1)).b + leadOfA (otherBuf x) := by
  cases x with
  | a =>
    have hlevel : cnt.a = cnt.b := h.trans (BitVec.add_zero _)
    exact congrArg (· + 1) hlevel
  | b =>
    have hahead : cnt.a = cnt.b + 1 := h
    exact hahead.trans (BitVec.add_zero _).symm

/-! ### The invariant of the CTU -/

/-- The invariant `State.RoundRobin`, which speaks of the CTU alone. -/
structure Ctu.RoundRobin (c : Ctu) : Prop where
  channel : c.rrCh = channelOf c.idx
  fills : c.cnt.a = c.cnt.b + leadOfA c.act

theorem State.roundRobin_iff {s : State} : s.RoundRobin ↔ s.ctu.RoundRobin :=
  ⟨fun ⟨hch, hfills⟩ => ⟨hch, hfills⟩, fun ⟨hch, hfills⟩ => ⟨hch, hfills⟩⟩

/-- Every move of the CTU keeps the interleave and the alternation, in a block with legal parameters: that `N` is
even brings the converter back to channel 0 where a fill ends. -/
theorem CtuMove.roundRobin {p : Params} {c c' : Ctu} {i : Instr} (hp : p.valid = true) (hc : c.RoundRobin)
    (h : CtuMove p c i c') : c'.RoundRobin := by
  have hnext : otherChannel c.rrCh = channelOf (c.idx + 1) := by
    rw [hc.channel, otherChannel_channelOf]
  cases h with
  | conv v => exact ⟨hnext, hc.fills⟩
  | convComplete v hrun hlast =>
    refine ⟨?_, leadOfA_of_completion c.act hc.fills⟩
    calc otherChannel c.rrCh = channelOf (bufLen p) := by rw [hnext, hlast]
      _ = .ch0 := channelOf_of_even (bufLen_even hp)
  | reset => exact ⟨rfl, rfl⟩
  | _ => exact ⟨hc.channel, hc.fills⟩

theorem exec_keeps_roundRobin {i : Instr} {s t : State} (hp : s.params.valid = true) (hs : s.RoundRobin)
    (h : exec i s = .next t) : t.RoundRobin :=
  State.roundRobin_iff.2 ((exec_next_ctuMoves h).move.roundRobin hp (State.roundRobin_iff.1 hs))

/-- The trace and the count of choices are no part of the invariant. -/
theorem State.RoundRobin.book {s : State} (hs : s.RoundRobin) (tr : List TraceLine) (n : Nat) :
    State.RoundRobin { s with trace := tr, tick := n } :=
  { hs with }

end Sys2Proof.Machine

namespace Sys2Proof.Proofs

open Sys2Proof.Machine

/-- Settles O41: every instruction keeps the invariant of a well-behaved block, and keeps it well-behaved. -/
theorem stepKeepsRoundRobin : Obligations.StepKeepsRoundRobin := by
  intro s t hs hr h
  have hboth : t.WellBehaved ∧ t.RoundRobin :=
    step_keeps (I := fun u => u.WellBehaved ∧ u.RoundRobin)
      (fun _ tr n ⟨hu, hru⟩ => ⟨hu.book tr n, hru.book tr n⟩)
      (fun _ _ _ ⟨hu, hru⟩ hi => ⟨exec_keeps_wellBehaved hu hi, exec_keeps_roundRobin hu.params hru hi⟩)
      ⟨hs, hr⟩ h
  exact hboth.2

end Sys2Proof.Proofs
end

section
/-!
PROOFS. The capture agent's two rows (spec/41_dma_engine.md): when each completes and the state it leads to, said
once as an equivalence. From it, what a conversion and a completion write (R130, R133), that a completion turns
capture to cell 0 of the other buffer (R131), and that running capture never stalls (R138).
-/

namespace Sys2Proof.Machine

/-! ### The other channel and the other buffer -/

theorem otherChannel_eq_ite (c : Channel) : otherChannel c = if c = .ch0 then .ch1 else .ch0 := by
  cases c <;> rfl

theorem otherBuf_eq_ite (x : Buf) : otherBuf x = if x = .a then .b else .a := by
  cases x <;> rfl

theorem PerBuf.get_otherBuf_set {α : Type} (p : PerBuf α) (x : Buf) (v : α) :
    (p.set x v).get (otherBuf x) = p.get (otherBuf x) :=
  PerBuf.get_set_other p v (otherBuf_ne x)

/-! ### The two rows -/

/-- The state after CONV. -/
def State.converted (s : State) (v : BitVec 12) : State :=
  { s.captured v with ctu.idx := s.ctu.idx + 1 }

/-- The state after CONV_COMPLETE. -/
def State.completed (s : State) (v : BitVec 12) : State :=
  { (s.captured v).complete s.ctu.act with ctu.act := otherBuf s.ctu.act, ctu.idx := 0 }

section Rows

variable {s t : State} {v : BitVec 12}

/-- CONV completes where the fill does not end with it, and nowhere else (R130). -/
theorem exec_conv_eq_next :
    exec (.conv v) s = .next t ↔
      (s.ctu.run = true ∧ s.ctu.idx + 1 < bufLen s.params) ∧ s.converted v = t := by
  constructor
  · intro h
    exact (execConv_yields_guarded
      (P := fun u => (s.ctu.run = true ∧ s.ctu.idx + 1 < bufLen s.params) ∧ s.converted v = u)
      fun hrun hidx => ⟨⟨hrun, hidx⟩, rfl⟩).of_next h
  · rintro ⟨⟨hrun, hidx⟩, rfl⟩
    have hlast : s.capLast = false := State.capLast_eq_false.2 (by omega)
    refine (onlyWhen_of ⟨hrun, hlast⟩).trans ?_
    rw [State.captureSample?_of_lt v (Nat.lt_of_succ_lt hidx)]
    rfl

/-- CONV_COMPLETE completes where the fill ends with it, and nowhere else (R133). -/
theorem exec_convComplete_eq_next :
    exec (.convComplete v) s = .next t ↔
      (s.ctu.run = true ∧ s.ctu.idx + 1 = bufLen s.params) ∧ s.completed v = t := by
  constructor
  · intro h
    exact (execConvComplete_yields_guarded
      (P := fun u => (s.ctu.run = true ∧ s.ctu.idx + 1 = bufLen s.params) ∧ s.completed v = u)
      fun hrun hidx => ⟨⟨hrun, hidx⟩, rfl⟩).of_next h
  · rintro ⟨⟨hrun, hidx⟩, rfl⟩
    have hlast : s.capLast = true := State.capLast_eq_true.2 (by omega)
    refine (onlyWhen_of ⟨hrun, hlast⟩).trans ?_
    rw [State.captureSample?_of_lt v (by omega)]
    rfl

theorem enabled_conv : s.enabled (.conv v) ↔ s.ctu.run = true ∧ s.ctu.idx + 1 < bufLen s.params :=
  ⟨fun ⟨_, h⟩ => (exec_conv_eq_next.1 h).1, fun h => ⟨_, exec_conv_eq_next.2 ⟨h, rfl⟩⟩⟩

theorem enabled_convComplete :
    s.enabled (.convComplete v) ↔ s.ctu.run = true ∧ s.ctu.idx + 1 = bufLen s.params :=
  ⟨fun ⟨_, h⟩ => (exec_convComplete_eq_next.1 h).1, fun h => ⟨_, exec_convComplete_eq_next.2 ⟨h, rfl⟩⟩⟩

end Rows

/-! ### The generic capture line -/

/-- A generic line is the step its agent can take. -/
theorem decodeRequest_agent_eq_ok {c : Choice} {s : State} {i : Instr} :
    decodeRequest (fetchLine (.agent c) s) = .ok i ↔ s.choiceStep? c = some i := by
  rw [fetchLine, decodeRequest_choiceRequest, decodedOf_eq_ok]

section Line

variable {s : State} (v : BitVec 12)

/-- While capture runs, the generic line is the row the state picks, and that row completes (R125). -/
theorem State.runLine_conv_of_run (hrun : s.ctu.run = true) (hidx : s.ctu.idx < bufLen s.params) :
    ∃ t, s.runLine (.agent (.conv v)) = .next t := by
  have hstep : s.choiceStep? (.conv v) = some (if s.capLast then .convComplete v else .conv v) := if_pos hrun
  obtain ⟨t, ht⟩ := enabled_of_capStep? hidx hstep
  exact ⟨t, State.runLine_eq_next.2 ⟨_, decodeRequest_agent_eq_ok.2 hstep, ht⟩⟩

/-- While capture is stopped, no row matches the word the state builds. -/
theorem State.runLine_conv_of_stopped (hrun : s.ctu.run = false) :
    s.runLine (.agent (.conv v)) = .refused (.badWord .noRow) := by
  have hnone : s.choiceStep? (.conv v) = none := if_neg (by simp [hrun])
  refine State.runLine_of_bad ?_
  rw [fetchLine, decodeRequest_choiceRequest, hnone]
  rfl

end Line

end Sys2Proof.Machine

namespace Sys2Proof.Proofs

open Sys2Proof.Machine

/-- Settles O1: the state after CONV, with the reads that follow its one write to the arenas. -/
theorem convStoresOneSample : Obligations.ConvStoresOneSample := by
  intro v s hrun hidx hlast
  refine ⟨s.converted v, exec_conv_eq_next.2 ⟨⟨hrun, by omega⟩, rfl⟩,
    State.readCell_of_writeHalf rfl rfl, fun a => State.readByte_of_writeHalf rfl rfl, ?_⟩
  rw [← otherChannel_eq_ite]
  rfl

/-- Settles O2: the state after CONV_COMPLETE, with the reads that follow its one write to the arenas; of each
pair of flags and counters only the completed buffer's is set. -/
theorem convCompleteFiresCompletion : Obligations.ConvCompleteFiresCompletion := by
  intro v s hrun hlast
  have hidx : s.ctu.idx + 1 = bufLen s.params := by have := bufLen_pos s.params; omega
  refine ⟨s.completed v, exec_convComplete_eq_next.2 ⟨⟨hrun, hidx⟩, rfl⟩, ?_,
    fun a => State.readByte_of_writeHalf rfl rfl,
    PerBuf.get_set_same _ _ _, PerBuf.get_otherBuf_set _ _ _,
    PerBuf.get_set_same _ _ _, PerBuf.get_otherBuf_set _ _ _,
    PerBuf.get_set_same _ _ _, PerBuf.get_otherBuf_set _ _ _, ?_⟩
  · rw [← hlast]
    exact State.readCell_of_writeHalf rfl rfl
  · rw [← otherChannel_eq_ite, ← otherBuf_eq_ite]
    rfl

/-- Settles O3: a completion leaves `ACT` at the other buffer and `IDX` at 0, and since `N` is at least 2 the
next conversion does not end a fill; its cell is none of the completed buffer's. -/
theorem completionArmsOtherBuffer : Obligations.CompletionArmsOtherBuffer := by
  intro v w s t hvalid h
  obtain ⟨⟨hrun, -⟩, rfl⟩ := exec_convComplete_eq_next.1 h
  have hlen : 2 ≤ bufLen s.params := two_le_bufLen hvalid
  refine ⟨(s.completed v).converted w, exec_conv_eq_next.2 ⟨⟨hrun, hlen⟩, rfl⟩,
    State.readCell_of_writeHalf rfl rfl, fun i hi => ?_⟩
  refine State.readCell_of_writeHalf_other rfl rfl rfl (Nat.zero_lt_of_lt hlen) hi ?_
  exact fun ⟨hact, _⟩ => otherBuf_ne s.ctu.act hact

/-- Settles O4: below `N`, an index either ends the fill or does not, and both rows ask for `RUN = 1`. -/
theorem captureNeverStalls : Obligations.CaptureNeverStalls := by
  intro v s hidx
  refine ⟨fun hrun => ⟨State.runLine_conv_of_run v hrun hidx, ?_⟩,
    fun hstop => ⟨State.runLine_conv_of_stopped v hstop, fun t h => ?_, fun t h => ?_⟩⟩
  · change s.enabled (.conv v) ↔ ¬s.enabled (.convComplete v)
    rw [enabled_conv, enabled_convComplete]
    constructor
    · rintro ⟨-, hlt⟩ ⟨-, heq⟩
      omega
    · intro hnot
      have hne : s.ctu.idx + 1 ≠ bufLen s.params := fun heq => hnot ⟨hrun, heq⟩
      exact ⟨hrun, by omega⟩
  · obtain ⟨⟨hrun, -⟩, -⟩ := exec_conv_eq_next.1 h
    exact nomatch hstop.symm.trans hrun
  · obtain ⟨⟨hrun, -⟩, -⟩ := exec_convComplete_eq_next.1 h
    exact nomatch hstop.symm.trans hrun

end Sys2Proof.Proofs
end

section
/-!
PROOFS. The transmitter and the UART (spec/42_transmitter.md): what each row of the transmitter does where its
guard holds (R150 to R156), how the UART and the link keep the order of the bytes (R80, R165), when an agent's
rows are held (R125, R158, R185, R205), and that a selected buffer's packet goes on the wire byte by byte (R92,
R159).
-/

namespace Sys2Proof.Machine

/-! ### The rows of the transmitter -/

section Selecting

variable {s : State} (hst : s.ctu.txSt = .idle)
include hst

theorem exec_txSelectA_of (ha : s.ctu.ready.a = true) : exec .txSelectA s = .next (s.selectBuf .a) :=
  onlyWhen_of ⟨hst, ha⟩

theorem exec_txSelectB_of (ha : s.ctu.ready.a = false) (hb : s.ctu.ready.b = true) :
    exec .txSelectB s = .next (s.selectBuf .b) :=
  onlyWhen_of ⟨hst, ha, hb⟩

theorem exec_txPollNone_of (ha : s.ctu.ready.a = false) (hb : s.ctu.ready.b = false) :
    exec .txPollNone s = .next s :=
  onlyWhen_of ⟨hst, ha, hb⟩

/-- The row of a selection: A goes before B (R150). -/
theorem exists_select_row {x : Buf} (hx : s.ctu.ready.get x = true) (hfirst : x = .b → s.ctu.ready.a = false) :
    ∃ i, (encode i).fmt = .tx ∧ exec i s = .next (s.selectBuf x) := by
  cases x with
  | a => exact ⟨.txSelectA, rfl, exec_txSelectA_of hst hx⟩
  | b => exact ⟨.txSelectB, rfl, exec_txSelectB_of hst (hfirst rfl) hx⟩

end Selecting

section Sending

variable {s : State} (hroom : s.ctu.uq.length < s.params.uartDepth)
include hroom

theorem whenSending_of {st : TxSt} {o : Outcome} (hst : s.ctu.txSt = st) : whenSending st s o = o :=
  onlyWhen_of ⟨hst, State.uqFull_eq_false.2 hroom⟩

theorem exec_txLo_of (hst : s.ctu.txSt = .dataLo) (htxI : s.ctu.txI < bufLen s.params) :
    exec .txLo s = .next (s.sentLow (s.readCell s.ctu.txBuf s.ctu.txI)) := by
  refine (whenSending_of hroom hst).trans ?_
  rw [State.bufRead?_of_lt htxI]
  rfl

theorem exec_txHi_of (hst : s.ctu.txSt = .dataHi) (hlast : s.ctu.txI ≠ bufLen s.params - 1) :
    exec .txHi s =
      .next { s.pushUq (hi8 s.ctu.txWord) with ctu.txI := s.ctu.txI + 1, ctu.txSt := .dataLo } :=
  (whenSending_of hroom hst).trans (onlyWhen_of (State.txLast_eq_false.2 hlast))

theorem exec_txHiLast_of (hst : s.ctu.txSt = .dataHi) (hlast : s.ctu.txI = bufLen s.params - 1) :
    exec .txHiLast s = .next { s.pushUq (hi8 s.ctu.txWord) with ctu.txSt := .term0 } :=
  (whenSending_of hroom hst).trans (onlyWhen_of (State.txLast_eq_true.2 hlast))

theorem exec_txTerm0_of (hst : s.ctu.txSt = .term0) :
    exec .txTerm0 s = .next { s.pushUq 0xFF with ctu.txSt := .term1 } :=
  whenSending_of hroom hst

theorem exec_txTerm1_of (hst : s.ctu.txSt = .term1) :
    exec .txTerm1 s = .next { s.pushUq 0xFF with
      ctu.ready := s.ctu.ready.set s.ctu.txBuf false, ctu.txSt := .idle } :=
  whenSending_of hroom hst

end Sending

/-! ### The bytes on their way -/

theorem exec_uartShift_of_cons {s : State} {x : Byte} {rest : List Byte} (huq : s.ctu.uq = x :: rest) :
    exec .uartShift s = .next { s with wire := s.wire ++ [x], ctu.uq := rest } := by
  simp only [exec, execUartShift, huq]

theorem exec_linkDeliver_of_cons {s : State} {x : Byte} {rest : List Byte} (hwire : s.wire = x :: rest) :
    exec .linkDeliver s = .next { s with wire := rest, rdu.rxq := s.rdu.rxq ++ [.byte x] } := by
  simp only [exec, execLinkDeliver, hwire, State.popWire_of_cons hwire]
  rfl

/-! ### Rows that are held -/

/-- No receiver step may start (R185, R205). -/
def Rdu.Held (r : Rdu) : Prop :=
  r.outValid = true ∨ r.rxq = []

section Held

variable {s : State} (h : s.rdu.Held)
include h

theorem onByte_of_held {k : Byte → Outcome} : onByte s k = .refused .notEnabled := by
  rcases h with hout | hrxq
  · simp [onByte, hout]
  · simp [onByte, hrxq]

theorem onErr_of_held {o : Outcome} : onErr s o = .refused .notEnabled := by
  rcases h with hout | hrxq
  · simp [onErr, hout]
  · simp [onErr, hrxq]

theorem exec_rx_of_held {i : Instr} (hi : (encode i).fmt = .rx) : exec i s = .refused .notEnabled := by
  cases i with
  | syncHuntFf | syncHuntOther | syncLock | syncResume | decFirst | decBoundary | decLeft | decRight =>
    exact onByte_of_held h
  | syncErrEvent | decErrEmpty | decErrShort => exact onErr_of_held h
  | _ => cases hi

end Held

theorem whenSending_of_full {s : State} (hfull : s.params.uartDepth ≤ s.ctu.uq.length) {st : TxSt}
    {o : Outcome} : whenSending st s o = .refused .notEnabled :=
  onlyWhen_of_not fun ⟨_, hroom⟩ => Nat.not_lt.2 hfull (State.uqFull_eq_false.1 hroom)

/-- The selections and the poll ask for IDLE, every other row of the transmitter for room in `UQ` (R158). -/
theorem exec_tx_of_full {i : Instr} {s : State} (hi : (encode i).fmt = .tx) (hst : s.ctu.txSt ≠ .idle)
    (hfull : s.params.uartDepth ≤ s.ctu.uq.length) : exec i s = .refused .notEnabled := by
  cases i with
  | txSelectA | txSelectB | txPollNone => exact onlyWhen_of_not fun h => hst h.1
  | txLo | txHi | txHiLast | txTerm0 | txTerm1 => exact whenSending_of_full hfull
  | _ => cases hi

theorem exec_cap_of_stopped {i : Instr} {s : State} (hi : (encode i).fmt = .cap) (hrun : s.ctu.run = false) :
    exec i s = .refused .notEnabled := by
  cases i with
  | conv v | convComplete v => exact onlyWhen_of_not fun h => nomatch hrun.symm.trans h.1
  | _ => cases hi

/-! ### One byte, and the next -/

theorem State.runLine_tx_of_exec {i : Instr} {s t : State} (hi : (encode i).fmt = .tx)
    (h : exec i s = .next t) : s.runLine (.agent .tx) = .next t :=
  State.runLine_eq_next.2 ⟨i, decodeRequest_agent_eq_ok.2 (txStep?_of_exec hi h), h⟩

theorem State.runLine_uart_of_cons {s : State} {x : Byte} {rest : List Byte} (huq : s.ctu.uq = x :: rest) :
    s.runLine (.agent .uart) = .next { s with wire := s.wire ++ [x], ctu.uq := rest } :=
  have h := exec_uartShift_of_cons huq
  State.runLine_eq_next.2 ⟨_, decodeRequest_agent_eq_ok.2 (uartStep?_of_exec rfl h), h⟩

theorem State.sendBytes_add {s t : State} {m : Nat} (n : Nat) (h : s.sendBytes m = .next t) :
    s.sendBytes (m + n) = t.sendBytes n := by
  rw [State.sendBytes, ← List.replicate_append_replicate, List.flatten_append]
  exact State.runLines_append h

/-- A row of the transmitter that leaves one byte in `UQ`, and the UART's step that takes it. -/
theorem State.sendBytes_one_of_exec {i : Instr} {s t : State} {b : Byte} (hi : (encode i).fmt = .tx)
    (h : exec i s = .next t) (huq : t.ctu.uq = [b]) :
    s.sendBytes 1 = .next { t with wire := t.wire ++ [b], ctu.uq := [] } := by
  have huart := State.runLines_cons_next [] (State.runLine_uart_of_cons huq)
  exact (State.runLines_cons_next _ (State.runLine_tx_of_exec hi h)).trans huart

/-! ### The packet, byte by byte -/

theorem uartDepth_pos {p : Params} (h : p.valid = true) : 0 < p.uartDepth := by
  obtain ⟨-, hdepth⟩ := Bool.and_eq_true_iff.1 h
  exact of_decide_eq_true hdepth

/-- `s` with the transmitter in the packet of buffer `x`: the bytes `bs` of it are on the wire, `UQ` is empty,
and the transmitter stands at cell `i` in state `st` with the word `w` latched. -/
def State.inPacket (s : State) (x : Buf) (bs : List Byte) (i : Nat) (w : Half) (st : TxSt) : State :=
  { s with
    wire := s.wire ++ bs, ctu.txBuf := x, ctu.txI := i, ctu.txWord := w, ctu.txSt := st, ctu.uq := [] }

/-- `s` with the flag of buffer `x` clear. -/
def State.readyCleared (s : State) (x : Buf) : State :=
  { s with ctu.ready := s.ctu.ready.set x false }

/-- The words of the first `n` cells of a buffer. -/
def State.cells (s : State) (x : Buf) (n : Nat) : List Half :=
  (List.range n).map (s.readCell x)

theorem State.cells_succ (s : State) (x : Buf) (n : Nat) :
    s.cells x (n + 1) = s.cells x n ++ [s.readCell x n] := by
  simp [State.cells, List.range_succ]

theorem State.selectBuf_eq_inPacket {s : State} (x : Buf) (huq : s.ctu.uq = []) :
    s.selectBuf x = s.inPacket x [] 0 s.ctu.txWord .dataLo := by
  rw [State.inPacket, List.append_nil, ← huq]
  rfl

theorem State.inPacket_append (s : State) (x : Buf) (bs bs' : List Byte) (i : Nat) (w : Half) (st : TxSt) :
    s.inPacket x (bs ++ bs') i w st =
      { s.inPacket x bs i w st with wire := (s.inPacket x bs i w st).wire ++ bs' } := by
  simp only [State.inPacket, List.append_assoc]

/-- One more byte of a packet: a row of the transmitter and the UART's step. -/
theorem State.sendBytes_one_inPacket {r : Instr} {s s' : State} {x : Buf} {bs : List Byte} {b : Byte} {i : Nat}
    {w : Half} {st : TxSt} (hr : (encode r).fmt = .tx)
    (h : exec r s = .next { s'.inPacket x bs i w st with ctu.uq := [b] }) :
    s.sendBytes 1 = .next (s'.inPacket x (bs ++ [b]) i w st) := by
  rw [State.inPacket_append, State.sendBytes_one_of_exec hr h rfl]
  rfl

section Packet

variable {s : State} {x : Buf} (bs : List Byte) {i : Nat} (w : Half) (hdepth : 0 < s.params.uartDepth)
include hdepth

theorem sendBytes_low (hi : i < bufLen s.params) :
    (s.inPacket x bs i w .dataLo).sendBytes 1 =
      .next (s.inPacket x (bs ++ [lo8 (encWord s.params (s.readCell x i))]) i
        (encWord s.params (s.readCell x i)) .dataHi) :=
  State.sendBytes_one_inPacket rfl (exec_txLo_of (s := s.inPacket x bs i w .dataLo) hdepth rfl hi)

theorem sendBytes_high (hi : i ≠ bufLen s.params - 1) :
    (s.inPacket x bs i w .dataHi).sendBytes 1 = .next (s.inPacket x (bs ++ [hi8 w]) (i + 1) w .dataLo) :=
  State.sendBytes_one_inPacket rfl (exec_txHi_of (s := s.inPacket x bs i w .dataHi) hdepth rfl hi)

theorem sendBytes_highLast (hi : i = bufLen s.params - 1) :
    (s.inPacket x bs i w .dataHi).sendBytes 1 = .next (s.inPacket x (bs ++ [hi8 w]) i w .term0) :=
  State.sendBytes_one_inPacket rfl (exec_txHiLast_of (s := s.inPacket x bs i w .dataHi) hdepth rfl hi)

theorem sendBytes_term0 :
    (s.inPacket x bs i w .term0).sendBytes 1 = .next (s.inPacket x (bs ++ [0xFF]) i w .term1) :=
  State.sendBytes_one_inPacket rfl (exec_txTerm0_of (s := s.inPacket x bs i w .term0) hdepth rfl)

theorem sendBytes_term1 :
    (s.inPacket x bs i w .term1).sendBytes 1 =
      .next ((s.readyCleared x).inPacket x (bs ++ [0xFF]) i w .idle) :=
  State.sendBytes_one_inPacket rfl (exec_txTerm1_of (s := s.inPacket x bs i w .term1) hdepth rfl)

/-- The two terminator bytes; the second clears the flag of the buffer sent (R157). -/
theorem sendBytes_terminator :
    (s.inPacket x bs i w .term0).sendBytes 2 =
      .next ((s.readyCleared x).inPacket x (bs ++ [0xFF, 0xFF]) i w .idle) := by
  rw [State.sendBytes_add 1 (sendBytes_term0 bs w hdepth), sendBytes_term1 _ w hdepth, List.append_assoc]
  rfl

theorem sendBytes_sample (hi : i < bufLen s.params - 1) :
    (s.inPacket x bs i w .dataLo).sendBytes 2 =
      .next (s.inPacket x (bs ++ wireBytes s.params (s.readCell x i)) (i + 1)
        (encWord s.params (s.readCell x i)) .dataLo) := by
  rw [State.sendBytes_add 1 (sendBytes_low bs w hdepth (by omega)), sendBytes_high _ _ hdepth (by omega),
    List.append_assoc]
  rfl

theorem sendBytes_sampleLast (hi : i = bufLen s.params - 1) :
    (s.inPacket x bs i w .dataLo).sendBytes 2 =
      .next (s.inPacket x (bs ++ wireBytes s.params (s.readCell x i)) i
        (encWord s.params (s.readCell x i)) .term0) := by
  have hlen := bufLen_pos s.params
  rw [State.sendBytes_add 1 (sendBytes_low bs w hdepth (by omega)), sendBytes_highLast _ _ hdepth hi,
    List.append_assoc]
  rfl

/-- The samples before the last, one after another. -/
theorem sendBytes_samples {n : Nat} (hn : n ≤ bufLen s.params - 1) :
    ∃ w', (s.inPacket x [] 0 w .dataLo).sendBytes (2 * n) =
      .next (s.inPacket x ((s.cells x n).flatMap (wireBytes s.params)) n w' .dataLo) := by
  induction n with
  | zero => exact ⟨w, rfl⟩
  | succ n ih =>
    obtain ⟨w', hw'⟩ := ih (Nat.le_of_succ_le hn)
    refine ⟨encWord s.params (s.readCell x n), ?_⟩
    rw [Nat.mul_succ, State.sendBytes_add 2 hw', sendBytes_sample _ w' hdepth hn, State.cells_succ,
      List.flatMap_append, List.flatMap_singleton]

/-- From the selection on: the `N - 1` samples before the last, the last, and the terminator (R92, R159). -/
theorem sendBytes_packet :
    ∃ i' w', (s.inPacket x [] 0 w .dataLo).sendBytes (2 * bufLen s.params + 2) =
      .next ((s.readyCleared x).inPacket x (packet s.params (s.cells x (bufLen s.params))) i' w' .idle) := by
  obtain ⟨n, hn⟩ := Nat.exists_eq_succ_of_ne_zero (bufLen_pos s.params).ne'
  obtain ⟨w', hw'⟩ := sendBytes_samples (x := x) w hdepth (n := n) (by omega)
  refine ⟨n, encWord s.params (s.readCell x n), ?_⟩
  rw [hn, Nat.mul_succ, Nat.add_assoc, State.sendBytes_add (2 + 2) hw',
    State.sendBytes_add 2 (sendBytes_sampleLast _ w' hdepth (by omega)),
    sendBytes_terminator _ _ hdepth, packet, State.cells_succ, List.flatMap_append, List.flatMap_singleton]

end Packet

end Sys2Proof.Machine

namespace Sys2Proof.Proofs

open Sys2Proof.Machine

/-- Settles O60: the selecting row is `x`'s own and starts its packet, `sendBytes_packet` sends it, and the state
that it names says the rest. -/
theorem transmitterSendsPacket : Obligations.TransmitterSendsPacket := by
  intro s x hvalid hst huq hx hfirst
  have hdepth : 0 < s.params.uartDepth := uartDepth_pos hvalid
  obtain ⟨i, hi, hexec⟩ := exists_select_row hst hx hfirst
  obtain ⟨j, w, hsend⟩ := sendBytes_packet (x := x) s.ctu.txWord hdepth
  rw [← State.selectBuf_eq_inPacket x huq] at hsend
  exact ⟨s.selectBuf x, _, State.runLine_tx_of_exec hi hexec, hsend, rfl, rfl, rfl,
    PerBuf.get_set_same s.ctu.ready x false, PerBuf.get_otherBuf_set s.ctu.ready x false,
    fun _ => rfl, rfl, rfl, rfl⟩

/-- Settles O50: each agent's rows share the guard that fails. -/
theorem heldAgentsHaveNoStep : Obligations.HeldAgentsHaveNoStep := fun _ _ =>
  ⟨fun hi h => exec_rx_of_held h hi, exec_tx_of_full, exec_cap_of_stopped⟩

/-- Settles O5: the three guards of the idle transmitter. -/
theorem txSelectsAThenB : Obligations.TxSelectsAThenB := fun _ hst =>
  ⟨exec_txSelectA_of hst, exec_txSelectB_of hst, exec_txPollNone_of hst⟩

/-- Settles O6: the word latched is the encode function of the cell read (R91). -/
theorem txLoSendsEncodedLowByte : Obligations.TxLoSendsEncodedLowByte := fun s hst hroom htxI =>
  ⟨encWord s.params (s.readCell s.ctu.txBuf s.ctu.txI), rfl, exec_txLo_of hroom hst htxI⟩

/-- Settles O7: below the last index and at it. -/
theorem txHiSendsLatchedHighByte : Obligations.TxHiSendsLatchedHighByte := fun _ hst hroom =>
  ⟨exec_txHi_of hroom hst, exec_txHiLast_of hroom hst⟩

/-- Settles O8: the flag that TX_TERM1 clears is that of `TX_BUF`, and only that. -/
theorem txTerminatorClearsReady : Obligations.TxTerminatorClearsReady := fun _ hroom =>
  ⟨exec_txTerm0_of hroom, fun hst =>
    ⟨_, exec_txTerm1_of hroom hst, PerBuf.get_set_same _ _ _, PerBuf.get_otherBuf_set _ _ _, rfl⟩⟩

/-- Settles O10: the byte moves from the head of one queue to the tail of the next, which is the same place
among the events in flight. -/
theorem uartAndLinkKeepOrder : Obligations.UartAndLinkKeepOrder := by
  intro s x rest
  refine ⟨fun huq => ⟨_, exec_uartShift_of_cons huq, rfl, ?_⟩,
    fun hwire => ⟨_, exec_linkDeliver_of_cons hwire, rfl, ?_⟩⟩
  · simp [State.inFlight, huq]
  · simp [State.inFlight, hwire]

end Sys2Proof.Proofs
end

section
/-!
PROOFS. The synchronizer (spec/43_synchronizer.md): what each of its rows does where its guard holds (R180 to
R184), that the lock is left by an RDU reset only (R188), and that from RDU reset the receiver locks at the first
two adjacent `0xFF` bytes, at the offset after them (R186).
-/

namespace Sys2Proof.Machine

/-! ### The rows of the synchronizer -/

theorem isTermByte_iff {b : Byte} : isTermByte b = true ↔ b = 0xFF :=
  beq_iff_eq

theorem not_isTermByte_iff {b : Byte} : (!isTermByte b) = true ↔ b ≠ 0xFF :=
  bne_iff_ne

theorem State.takeEvent_of_cons {s : State} {e : RxEvent} {rest : List RxEvent} (hq : s.rdu.rxq = e :: rest) :
    s.takeEvent = { s with rdu.rxq := rest, rdu.rxOpen := true } := by
  rw [State.takeEvent, hq]
  rfl

/-- The state after the synchronizer has taken and counted a byte before `rest`, `SST` then being `st`. -/
def State.tookSyncByte (s : State) (rest : List RxEvent) (st : SyncSt) : State :=
  { s with rdu.rxq := rest, rdu.rxOpen := true, rdu.syncOffset := s.rdu.syncOffset + 1, rdu.sst := st }

section Rows

variable {s : State} {rest : List RxEvent} (ho : s.rdu.outValid = false)
include ho

section OnByte

variable {b : Byte} (hq : s.rdu.rxq = .byte b :: rest)
include hq

theorem syncByteStep_of {st st' : SyncSt} {p : Byte → Bool} (hst : s.rdu.sst = st) (hb : p b = true) :
    syncByteStep st p st' s = .next (s.tookSyncByte rest st') := by
  rw [syncByteStep, onByte_of ho hq, onlyWhen_of ⟨hst, hb⟩, State.takeEvent_of_cons hq]
  rfl

theorem exec_syncHuntOther_of (hst : s.rdu.sst = .hunt) (hb : b ≠ 0xFF) :
    exec .syncHuntOther s = .next (s.tookSyncByte rest .hunt) :=
  syncByteStep_of ho hq hst (not_isTermByte_iff.2 hb)

theorem exec_syncHuntFf_of (hst : s.rdu.sst = .hunt) (hb : b = 0xFF) :
    exec .syncHuntFf s = .next (s.tookSyncByte rest .sawFf) :=
  syncByteStep_of ho hq hst (isTermByte_iff.2 hb)

theorem exec_syncResume_of (hst : s.rdu.sst = .sawFf) (hb : b ≠ 0xFF) :
    exec .syncResume s = .next (s.tookSyncByte rest .hunt) :=
  syncByteStep_of ho hq hst (not_isTermByte_iff.2 hb)

end OnByte

theorem exec_syncLock_of (hq : s.rdu.rxq = .byte 0xFF :: rest) (hst : s.rdu.sst = .sawFf) :
    exec .syncLock s =
      .next { s.tookSyncByte rest .synced with rdu.phase := .left, rdu.haveLo := false } := by
  refine (onByte_of ho hq).trans ((onlyWhen_of ⟨hst, isTermByte_iff.2 rfl⟩).trans ?_)
  rw [State.takeEvent_of_cons hq]
  rfl

theorem exec_syncErrEvent_of (hq : s.rdu.rxq = .err :: rest) (hst : s.rdu.sst ≠ .synced) :
    exec .syncErrEvent s = .next { s with
      rdu.rxq := rest, rdu.rxOpen := true, rdu.sst := .hunt, rdu.syncErr := true
      rdu.syncErrCnt := s.rdu.syncErrCnt + 1 } := by
  refine (onErr_of ho hq).trans ((onlyWhen_of hst).trans ?_)
  rw [State.takeEvent_of_cons hq]
  rfl

end Rows

/-! ### The lock is kept -/

/-- A synchronizer row needs `SST` before the lock, and of the other rows the RDU reset alone writes it. -/
theorem RduMove.synced {r r' : Rdu} {i : Instr} {out : List Byte} (h : RduMove r i r' out)
    (hi : i ≠ .resetRdu) (hst : r.sst = .synced) : r'.sst = .synced := by
  cases h with
  | keep | arrive | sinkAccept | ackErrors
  | decFirst | decErrEmpty | decBoundary | decLeft | decRight | decErrShort => exact hst
  | lock => rfl
  | hunt _ _ _ _ hne | syncErrEvent _ hne => exact absurd hst hne
  | reset => exact absurd rfl hi

/-! ### The hunt, byte by byte -/

theorem State.runLine_rx_of_exec {i : Instr} {s t : State} (hi : (encode i).fmt = .rx)
    (h : exec i s = .next t) : s.runLine (.agent .rx) = .next t :=
  State.runLine_eq_next.2 ⟨i, decodeRequest_agent_eq_ok.2 (rxStep?_of_exec hi h), h⟩

/-- The receiver's `n + 1` steps are its first `n` and the row of the next event. -/
theorem State.receive_succ_of_exec {i : Instr} {s t u : State} {n : Nat} (h : s.receive n = .next t)
    (hi : (encode i).fmt = .rx) (ht : exec i t = .next u) : s.receive (n + 1) = .next u := by
  rw [State.receive, List.replicate_succ', State.runLines_append h]
  exact State.runLines_cons_next [] (State.runLine_rx_of_exec hi ht)

/-- The byte just before position `k`, if there is one. -/
def byteBefore (bs : List Byte) : Nat → Option Byte
  | 0 => none
  | k + 1 => bs[k]?

/-- `SST` before the lock, from the byte taken last. -/
def huntState (prev : Option Byte) : SyncSt :=
  if prev = some 0xFF then .sawFf else .hunt

theorem huntState_of_eq {prev : Option Byte} (h : prev = some 0xFF) : huntState prev = .sawFf := if_pos h

theorem huntState_of_ne {prev : Option Byte} (h : prev ≠ some 0xFF) : huntState prev = .hunt := if_neg h

theorem huntState_ne_synced (prev : Option Byte) : huntState prev ≠ .synced := by
  unfold huntState
  split <;> decide

/-- A byte that does not complete a terminator moves `SST` to the state of that byte (R180, R181, R183). -/
theorem exists_hunt_row {s : State} {b : Byte} {rest : List RxEvent} {prev : Option Byte}
    (ho : s.rdu.outValid = false) (hq : s.rdu.rxq = .byte b :: rest) (hst : s.rdu.sst = huntState prev)
    (hpair : ¬(prev = some 0xFF ∧ b = 0xFF)) :
    ∃ i, (encode i).fmt = .rx ∧ exec i s = .next (s.tookSyncByte rest (huntState (some b))) := by
  by_cases hb : b = 0xFF
  · have hprev : prev ≠ some 0xFF := fun h => hpair ⟨h, hb⟩
    rw [huntState_of_eq (congrArg some hb)]
    exact ⟨.syncHuntFf, rfl, exec_syncHuntFf_of ho hq (hst.trans (huntState_of_ne hprev)) hb⟩
  · rw [huntState_of_ne (mt Option.some.inj hb)]
    by_cases hprev : prev = some 0xFF
    · exact ⟨.syncResume, rfl, exec_syncResume_of ho hq (hst.trans (huntState_of_eq hprev)) hb⟩
    · exact ⟨.syncHuntOther, rfl, exec_syncHuntOther_of ho hq (hst.trans (huntState_of_ne hprev)) hb⟩

/-- `s` with the RDU as it is from reset after the first `k` of the bytes `bs`, none of which made it lock. -/
def State.hunted (s : State) (bs : List Byte) (more : List RxEvent) (k : Nat) : State :=
  { s with
    rdu := { Rdu.atReset with
      rxq := (bs.drop k).map .byte ++ more, sst := huntState (byteBefore bs k)
      syncOffset := BitVec.ofNat 32 k, rxOpen := decide (0 < k) } }

section Hunt

variable {s : State} {bs : List Byte} {more : List RxEvent}

theorem State.hunted_zero (h : s.rdu = { Rdu.atReset with rxq := bs.map .byte ++ more }) :
    s.hunted bs more 0 = s :=
  congrArg (fun r => { s with rdu := r }) h.symm

theorem State.hunted_rxq {k : Nat} {b : Byte} (hb : bs[k]? = some b) :
    (s.hunted bs more k).rdu.rxq = .byte b :: ((bs.drop (k + 1)).map .byte ++ more) := by
  obtain ⟨hk, rfl⟩ := List.getElem?_eq_some_iff.1 hb
  simp only [State.hunted, List.drop_eq_getElem_cons hk, List.map_cons, List.cons_append]

theorem State.tookSyncByte_hunted {k : Nat} {b : Byte} (hb : bs[k]? = some b) :
    (s.hunted bs more k).tookSyncByte ((bs.drop (k + 1)).map .byte ++ more) (huntState (some b)) =
      s.hunted bs more (k + 1) := by
  simp [State.tookSyncByte, State.hunted, byteBefore, hb, BitVec.ofNat_add]

/-- Up to the end of the first terminator the receiver hunts. -/
theorem State.receive_hunted {j : Nat} (hreset : s.rdu = { Rdu.atReset with rxq := bs.map .byte ++ more })
    (hlen : bs.length = j + 2) (hfirst : ∀ k, k < j → ¬(bs[k]? = some 0xFF ∧ bs[k + 1]? = some 0xFF))
    {k : Nat} (hk : k < j + 2) : s.receive k = .next (s.hunted bs more k) := by
  induction k with
  | zero => exact congrArg _ (State.hunted_zero hreset).symm
  | succ k ih =>
    have hb : bs[k]? = some bs[k] := List.getElem?_eq_getElem (by omega)
    have hpair : ¬(byteBefore bs k = some 0xFF ∧ bs[k] = 0xFF) := by
      rintro ⟨hprev, hff⟩
      cases k with
      | zero => cases hprev
      | succ m => exact hfirst m (by omega) ⟨hprev, hb.trans (congrArg some hff)⟩
    obtain ⟨i, hi, hexec⟩ := exists_hunt_row (s := s.hunted bs more k) rfl (State.hunted_rxq hb) rfl hpair
    rw [State.tookSyncByte_hunted hb] at hexec
    exact State.receive_succ_of_exec (ih (by omega)) hi hexec

end Hunt

end Sys2Proof.Machine

namespace Sys2Proof.Proofs

open Sys2Proof.Machine

/-- Settles O17: the receiver hunts up to byte `j`, which leaves it in SAW_FF, and byte `j + 1` makes it lock. -/
theorem synchronizerFindsFirstTerminator : Obligations.SynchronizerFindsFirstTerminator := by
  intro s bs more j hreset hlen hj hj1 hfirst
  have hunt {k : Nat} (hk : k < j + 2) : s.receive k = .next (s.hunted bs more k) :=
    State.receive_hunted hreset hlen hfirst hk
  refine ⟨fun k hk t ht => ?_, ?_⟩
  · obtain rfl := Host.Outcome.next.inj ((hunt hk).symm.trans ht)
    exact huntState_ne_synced _
  · have hlock := exec_syncLock_of (s := s.hunted bs more (j + 1)) rfl (State.hunted_rxq hj1)
      (huntState_of_eq hj)
    refine ⟨_, State.receive_succ_of_exec (hunt (by omega)) rfl hlock, rfl, rfl, ?_, ?_, rfl⟩
    · exact (BitVec.ofNat_add (j + 1) 1).symm
    · exact congrArg (List.map RxEvent.byte · ++ more) (List.drop_of_length_le hlen.le)

/-- Settles O54: no move of the RDU but its reset leaves the lock. -/
theorem syncedUntilRduReset : Obligations.SyncedUntilRduReset := by
  intro i s t hi h hst
  obtain ⟨_, hmove, -⟩ := exec_next_rduMoves h
  exact hmove.synced hi hst

/-- Settles O14: in the first case `SST` stays as it is. -/
theorem syncHuntsForTerminator : Obligations.SyncHuntsForTerminator := by
  intro s b rest ho hq
  refine ⟨fun hst hb => ?_, exec_syncHuntFf_of ho hq, exec_syncResume_of ho hq⟩
  rw [exec_syncHuntOther_of ho hq hst hb, ← hst]
  rfl

/-- Settles O15: the lock row, its guard being met by the second `0xFF`. -/
theorem syncLockExpectsLeft : Obligations.SyncLockExpectsLeft := fun _ _ => exec_syncLock_of

/-- Settles O16: the row asks only that `SST` is not SYNCED. -/
theorem syncErrIsRecorded : Obligations.SyncErrIsRecorded := by
  intro s rest ho hq hst
  refine exec_syncErrEvent_of ho hq ?_
  rcases hst with hst | hst <;> simp [hst]

end Sys2Proof.Proofs
end

section
/-!
PROOFS. The frame decoder and the sink (spec/44_decoder.md): the value of a pair and its inverse on 12-bit samples
(R202, R211), what each decoder row does where its guard holds (R200 to R207), which rows write the phase (R208),
and the frame the sink takes (R214).
-/

namespace Sys2Proof.Machine

/-! ### The value of a pair -/

theorem isBoundary_eq_true {b0 b1 : Byte} : isBoundary b0 b1 = true ↔ b0 = 0xFF ∧ b1 = 0xFF := by
  simp [isBoundary]

theorem isBoundary_eq_false {b0 b1 : Byte} : isBoundary b0 b1 = false ↔ ¬(b0 = 0xFF ∧ b1 = 0xFF) := by
  rw [← isBoundary_eq_true, Bool.not_eq_true]

theorem toNat_pairWord (b0 b1 : Byte) : (pairWord b0 b1).toNat = 256 * b1.toNat + b0.toNat := by
  rw [pairWord, BitVec.toNat_append, ← Nat.shiftLeft_add_eq_or_of_lt b0.isLt, Nat.shiftLeft_eq, Nat.mul_comm]

/-- The transform is exact modulo 2^16 (R202): narrowing to the pattern loses a multiple of it. -/
theorem toInt_toPcm_emod (u : Half) :
    (toPcm u).toInt % 65536 = (((u.toNat : Int) - 2048) * 16) % 65536 := by
  rw [toPcm, BitVec.toInt_ofInt]
  exact Int.bmod_emod

/-- On a 12-bit value the transform does not overflow (R211). -/
theorem toInt_toPcm_of_lt {u : Half} (hu : u.toNat < 4096) :
    (toPcm u).toInt = ((u.toNat : Int) - 2048) * 16 := by
  rw [toPcm, BitVec.toInt_ofInt]
  refine Int.bmod_eq_of_le ?_ ?_ <;> simp only [biasOffset, scaleShift] <;> omega

theorem fromPcm_toPcm_of_lt {u : Half} (hu : u.toNat < 4096) : fromPcm (toPcm u) = u.toNat := by
  have hdiv : Int.fdiv (((u.toNat : Int) - 2048) * 16) 16 = (u.toNat : Int) - 2048 :=
    Int.mul_fdiv_cancel _ (by decide)
  calc fromPcm (toPcm u)
      = Int.fdiv (((u.toNat : Int) - 2048) * 16) 16 + 2048 := by rw [← toInt_toPcm_of_lt hu]; rfl
    _ = u.toNat := by rw [hdiv, Int.sub_add_cancel]

/-- A 12-bit value is no terminator pattern, so the encode function leaves it (R91, R211). -/
theorem ne_termWord_of_lt {x : Half} (hx : x < 4096) : x ≠ termWord := by
  rintro rfl
  exact absurd hx (by decide)

/-! ### The rows of the decoder -/

section Rows

variable {s : State} {rest : List RxEvent} (ho : s.rdu.outValid = false) (hst : s.rdu.sst = .synced)
include ho hst

section OnByte

variable {b : Byte} (hq : s.rdu.rxq = .byte b :: rest)
include hq

theorem onPair_of {k : Byte → Outcome} (hlo : s.rdu.haveLo = true) : onPair s k = k b :=
  (onByte_of ho hq).trans (onlyWhen_of ⟨hst, hlo⟩)

theorem exec_decFirst_of (hlo : s.rdu.haveLo = false) :
    exec .decFirst s = .next { s with
      rdu.rxq := rest, rdu.rxOpen := true, rdu.loByte := b, rdu.haveLo := true } := by
  refine (onByte_of ho hq).trans ((onlyWhen_of ⟨hst, hlo⟩).trans ?_)
  rw [State.takeEvent_of_cons hq]

theorem exec_decBoundary_of (hlo : s.rdu.haveLo = true) (hpair : s.rdu.loByte = 0xFF ∧ b = 0xFF) :
    exec .decBoundary s = .next { s with
      rdu.rxq := rest, rdu.rxOpen := true, rdu.haveLo := false
      rdu.boundaryCnt := s.rdu.boundaryCnt + 1 } := by
  refine (onPair_of ho hst hq hlo).trans ((onlyWhen_of (isBoundary_eq_true.2 hpair)).trans ?_)
  rw [State.takeEvent_of_cons hq]

theorem exec_decLeft_of (hlo : s.rdu.haveLo = true) (hpair : ¬(s.rdu.loByte = 0xFF ∧ b = 0xFF))
    (hphase : s.rdu.phase = .left) :
    exec .decLeft s = .next { s with
      rdu.rxq := rest, rdu.rxOpen := true, rdu.leftVal := toPcm (pairWord s.rdu.loByte b)
      rdu.phase := .right, rdu.haveLo := false } := by
  refine (onPair_of ho hst hq hlo).trans ((onlyWhen_of ⟨hphase, isBoundary_eq_false.2 hpair⟩).trans ?_)
  rw [State.takeEvent_of_cons hq]

theorem exec_decRight_of (hlo : s.rdu.haveLo = true) (hpair : ¬(s.rdu.loByte = 0xFF ∧ b = 0xFF))
    (hphase : s.rdu.phase = .right) :
    exec .decRight s = .next { s with
      rdu.rxq := rest, rdu.rxOpen := true, rdu.outL := s.rdu.leftVal
      rdu.outR := toPcm (pairWord s.rdu.loByte b), rdu.outValid := true, rdu.phase := .left
      rdu.haveLo := false, rdu.frameCnt := s.rdu.frameCnt + 1 } := by
  refine (onPair_of ho hst hq hlo).trans ((onlyWhen_of ⟨hphase, isBoundary_eq_false.2 hpair⟩).trans ?_)
  rw [State.takeEvent_of_cons hq]

end OnByte

section OnErr

variable (hq : s.rdu.rxq = .err :: rest)
include hq

theorem exec_decErrEmpty_of (hlo : s.rdu.haveLo = false) :
    exec .decErrEmpty s = .next { s with
      rdu.rxq := rest, rdu.rxOpen := true, rdu.rdErr := true, rdu.rdErrCnt := s.rdu.rdErrCnt + 1 } := by
  refine (onErr_of ho hq).trans ((onlyWhen_of ⟨hst, hlo⟩).trans ?_)
  rw [State.takeEvent_of_cons hq]
  rfl

theorem exec_decErrShort_of (hlo : s.rdu.haveLo = true) :
    exec .decErrShort s = .next { s with
      rdu.rxq := rest, rdu.rxOpen := true, rdu.rdErr := true, rdu.rdErrCnt := s.rdu.rdErrCnt + 1
      rdu.haveLo := false } := by
  refine (onErr_of ho hq).trans ((onlyWhen_of ⟨hst, hlo⟩).trans ?_)
  rw [State.takeEvent_of_cons hq]
  rfl

end OnErr

end Rows

/-! ### The writers of the phase -/

theorem RduMove.phase_cases {r r' : Rdu} {i : Instr} {out : List Byte} (h : RduMove r i r' out) :
    r'.phase = r.phase ∨ (i = .syncLock ∧ r'.phase = .left) ∨ (i = .decLeft ∧ r'.phase = .right) ∨
      (i = .decRight ∧ r'.phase = .left) ∨ i = .resetRdu := by
  cases h with
  | keep | arrive | hunt | syncErrEvent | sinkAccept | ackErrors
  | decFirst | decErrEmpty | decBoundary | decErrShort => exact .inl rfl
  | lock => exact .inr (.inl ⟨rfl, rfl⟩)
  | decLeft => exact .inr (.inr (.inl ⟨rfl, rfl⟩))
  | decRight => exact .inr (.inr (.inr (.inl ⟨rfl, rfl⟩)))
  | reset => exact .inr (.inr (.inr (.inr rfl)))

end Sys2Proof.Machine

namespace Sys2Proof.Proofs

open Sys2Proof.Machine

/-- Settles O20: the value is that of the pair's word, whichever channel the phase gives it to. -/
theorem decSampleAlternatesChannels : Obligations.DecSampleAlternatesChannels := by
  intro s b rest ho hq hst hlo hpair
  refine ⟨toPcm (pairWord s.rdu.loByte b), ?_, exec_decLeft_of ho hst hq hlo hpair,
    exec_decRight_of ho hst hq hlo hpair⟩
  have hmod := toInt_toPcm_emod (pairWord s.rdu.loByte b)
  rw [toNat_pairWord] at hmod
  exact Int.emod_eq_emod_iff_emod_sub_eq_zero.1 hmod

/-- Settles O22: a value below 4096 is no terminator pattern, its bytes make it up again, and the transform does
not overflow on it. -/
theorem sampleRoundTripIsExact : Obligations.SampleRoundTripIsExact := fun p x hx =>
  ⟨encWord_of_ne p (ne_termWord_of_lt hx), half_of_bytes x, fromPcm_toPcm_of_lt (BitVec.lt_def.1 hx)⟩

/-- Settles O56, from `RduMove.phase_cases`. -/
theorem phaseWriters : Obligations.PhaseWriters := by
  intro i s t h hne
  obtain ⟨_, hmove, -⟩ := exec_next_rduMoves h
  exact hmove.phase_cases.resolve_left hne

/-- Settles O18: the row asks nothing of the byte. -/
theorem decFirstLatchesByte : Obligations.DecFirstLatchesByte := fun _ _ _ ho hq hst =>
  exec_decFirst_of ho hst hq

/-- Settles O19: the two bytes are a boundary. -/
theorem decBoundaryIsSkipped : Obligations.DecBoundaryIsSkipped := fun _ _ ho hq hst hlo hff =>
  exec_decBoundary_of ho hst hq hlo ⟨hff, rfl⟩

/-- Settles O21: without a latched byte and with one. -/
theorem decErrKeepsPhase : Obligations.DecErrKeepsPhase := fun _ _ ho hq hst =>
  ⟨exec_decErrEmpty_of ho hst hq, exec_decErrShort_of ho hst hq⟩

/-- Settles O23: the bytes named are those of the frame (R97). -/
theorem sinkAppendsFrame : Obligations.SinkAppendsFrame := fun _ hout => onlyWhen_of hout

end Sys2Proof.Proofs
end

section
/-!
PROOFS. Register access (spec/45_register_access.md): the bits and fields of the values registers read as (R230 to
R253), the two write-1-to-clear acknowledgements (R237, R246), the guarded writes of `CTRL` and `CLKDIV` (R232,
R234), and the response of every access, which is the only change a read, an ignored write or a bus error makes
(R240, R250, R254, R255).
-/

namespace Sys2Proof.Machine

/-! ### A condition as a bit of a register -/

theorem getLsbD_flagBit (b : Bool) (k i : Nat) :
    (flagBit b k).getLsbD i = (decide (i < 32) && decide (i = k) && b) := by
  rw [flagBit, BitVec.getLsbD_shiftLeft, BitVec.getLsbD_setWidth, BitVec.getLsbD_ofBool]
  grind

@[simp] theorem getElem_flagBit (b : Bool) (k : Nat) {i : Nat} (hi : i < 32) :
    (flagBit b k)[i] = (decide (i = k) && b) := by
  rw [← BitVec.getLsbD_eq_getElem, getLsbD_flagBit, decide_eq_true hi, Bool.true_and]

theorem flagBit_eq_zero_iff {b : Bool} {k : Nat} (hk : k < 32) : flagBit b k = 0#32 ↔ b = false := by
  constructor
  · intro h
    simpa [hk] using congrArg (BitVec.getLsbD · k) h
  · rintro rfl
    simp [flagBit]

theorem toNat_flagBit_lt (b : Bool) {k n : Nat} (hkn : k < n) : (flagBit b k).toNat < 2 ^ n := by
  refine Nat.lt_pow_two_of_testBit _ fun i hi => ?_
  have hne : i ≠ k := by omega
  rw [BitVec.testBit_toNat, getLsbD_flagBit, decide_eq_false hne, Bool.and_false, Bool.false_and]

theorem extractLsb'_flagBit_of_le (b : Bool) {k n : Nat} (hnk : n ≤ k) :
    (flagBit b k).extractLsb' 0 n = 0#n := by
  refine BitVec.eq_of_getLsbD_eq fun i hi => ?_
  have hne : 0 + i ≠ k := by omega
  simp only [BitVec.getLsbD_extractLsb', getLsbD_flagBit, decide_eq_false hne, Bool.and_false, Bool.false_and,
    BitVec.getLsbD_zero]

theorem toNat_or_lt_iff {x y : Reg} {n : Nat} :
    (x ||| y).toNat < 2 ^ n ↔ x.toNat < 2 ^ n ∧ y.toNat < 2 ^ n := by
  rw [BitVec.toNat_or]
  exact ⟨fun h => ⟨Nat.left_le_or.trans_lt h, Nat.right_le_or.trans_lt h⟩,
    fun ⟨hx, hy⟩ => Nat.or_lt_two_pow hx hy⟩

/-- Two halves side by side, as `CONFIG` and `OUT_FRAME` hold them (R243, R252). -/
theorem halves_eq_append (hi lo : Half) : lo.setWidth 32 ||| hi.setWidth 32 <<< 16 = hi ++ lo := by
  rw [BitVec.or_comm, ← BitVec.setWidth_append_eq_shiftLeft_setWidth_or, BitVec.setWidth_eq]

@[simp] theorem bufBit_eq_true {x : Buf} : bufBit x = true ↔ x = .b := by cases x <;> decide

@[simp] theorem channelBit_eq_true {c : Channel} : channelBit c = true ↔ c = .ch1 := by cases c <;> decide

@[simp] theorem phaseBit_eq_true {p : Phase} : phaseBit p = true ↔ p = .right := by cases p <;> decide

/-! ### The values registers read as -/

theorem regCtrl_eq (s : State) : regCtrl s = if s.ctu.run then 1 else 0 := by
  unfold regCtrl
  cases s.ctu.run <;> rfl

theorem regConfig_eq (s : State) :
    regConfig s = s.params.sentinel ++ s.params.nLog2.setWidth 16 := by
  rw [← halves_eq_append, BitVec.setWidth_setWidth (by decide)]
  rfl

theorem regOutFrame_eq (s : State) : regOutFrame s = s.rdu.outR ++ s.rdu.outL :=
  halves_eq_append _ _

theorem toNat_regStatus_lt (s : State) : (regStatus s).toNat < 2 ^ 8 := by
  simp only [regStatus, toNat_or_lt_iff, toNat_flagBit_lt, Nat.reduceLT, and_self]

theorem toNat_regIntr_lt (s : State) : (regIntr s).toNat < 2 ^ 2 := by
  simp only [regIntr, toNat_or_lt_iff, toNat_flagBit_lt, Nat.reduceLT, and_self]

theorem toNat_regInte_lt (s : State) : (regInte s).toNat < 2 ^ 2 := by
  simp only [regInte, toNat_or_lt_iff, toNat_flagBit_lt, Nat.reduceLT, and_self]

theorem regInts_eq_and (s : State) : regInts s = regIntr s &&& regInte s := by
  refine BitVec.eq_of_getLsbD_eq fun i _ => ?_
  simp only [regInts, regIntr, regInte, BitVec.getLsbD_and, BitVec.getLsbD_or, getLsbD_flagBit]
  rcases i with _ | _ | i <;> simp

/-- The line is the OR of the bits of `INTS` (R287). -/
theorem irq_iff_regInts_ne_zero (s : State) : irq s = true ↔ regInts s ≠ 0 := by
  have hzero : regInts s = 0 ↔ irq s = false := by
    refine BitVec.or_eq_zero_iff.trans ?_
    rw [flagBit_eq_zero_iff (by decide), flagBit_eq_zero_iff (by decide), ← Bool.or_eq_false_iff]
    rfl
  rw [Ne, hzero, Bool.not_eq_false]

theorem toNat_sstCode_lt (st : SyncSt) : ((sstCode st).setWidth 32 : Reg).toNat < 2 ^ 7 := by
  cases st <;> decide

theorem toNat_regRstatus_lt (s : State) : (regRstatus s).toNat < 2 ^ 7 := by
  simp only [regRstatus, toNat_or_lt_iff, toNat_flagBit_lt, toNat_sstCode_lt, Nat.reduceLT, and_self]

/-- The flags of `RSTATUS` lie above the two bits of `SST`. -/
theorem regRstatus_sst (s : State) : (regRstatus s).extractLsb' 0 2 = sstCode s.rdu.sst := by
  have hfield : ((sstCode s.rdu.sst).setWidth 32 : Reg).extractLsb' 0 2 = sstCode s.rdu.sst := by
    cases s.rdu.sst <;> decide
  simp only [regRstatus, BitVec.extractLsb'_or, extractLsb'_flagBit_of_le, Nat.reduceLeDiff, hfield,
    BitVec.or_zero]

/-! ### Responses -/

theorem readCtu_of_eq {s : State} {r r' : Reg} (h : r = r') :
    readCtu s r = .next { s with ctuBus := .okRead r' } := by
  rw [readCtu_eq, h]

theorem readRdu_of_eq {s : State} {r r' : Reg} (h : r = r') :
    readRdu s r = .next { s with rduBus := .okRead r' } := by
  rw [readRdu_eq, h]

/-! ### Writes with an effect -/

section Ctrl

variable {s : State} {d : Reg}

theorem exec_wrCtuCtrl_start (hreq : d.getLsbD 0 = true ∧ s.ctu.run = false ∧ s.ctu.cfgErr = false)
    (hdiv : s.ctu.clkdiv ≠ 0) :
    exec (.wrCtuCtrl d) s = .next { s with ctu.run := true, ctuBus := .okWrite } :=
  (if_pos hreq).trans (if_neg hdiv)

theorem exec_wrCtuCtrl_misconfigured
    (hreq : d.getLsbD 0 = true ∧ s.ctu.run = false ∧ s.ctu.cfgErr = false) (hdiv : s.ctu.clkdiv = 0) :
    exec (.wrCtuCtrl d) s = .next { s with ctu.cfgErr := true, ctuBus := .okWrite } :=
  (if_pos hreq).trans (if_pos hdiv)

theorem exec_wrCtuCtrl_ignored (hreq : ¬(d.getLsbD 0 = true ∧ s.ctu.run = false ∧ s.ctu.cfgErr = false)) :
    exec (.wrCtuCtrl d) s = .next { s with ctuBus := .okWrite } :=
  if_neg hreq

theorem exec_wrCtuClkdiv_stopped (hstop : s.ctu.run = false ∧ s.ctu.cfgErr = false) :
    exec (.wrCtuClkdiv d) s =
      .next { s with ctu.clkdiv := d.extractLsb' 0 16, ctuBus := .okWrite } := by
  rw [← BitVec.setWidth_eq_extractLsb' (by decide)]
  exact if_pos hstop

theorem exec_wrCtuClkdiv_ignored (hstop : ¬(s.ctu.run = false ∧ s.ctu.cfgErr = false)) :
    exec (.wrCtuClkdiv d) s = .next { s with ctuBus := .okWrite } :=
  if_neg hstop

end Ctrl

/-- Write 1 to clear (R291): the written bit `w` clears the flag `b`. -/
theorem and_not_eq_ite (b w : Bool) : (b && !w) = if w then false else b := by
  cases w <;> simp

theorem State.ackIntr_eq (s : State) (d : Reg) :
    s.ackIntr d = { s with ctu.intr :=
      ⟨if d.getLsbD 0 then false else s.ctu.intr.a, if d.getLsbD 1 then false else s.ctu.intr.b⟩ } := by
  simp only [State.ackIntr, and_not_eq_ite]

theorem State.ackErrors_eq (s : State) (d : Reg) :
    s.ackErrors d = { s with
      rdu.syncErr := if d.getLsbD 5 then false else s.rdu.syncErr
      rdu.rdErr := if d.getLsbD 6 then false else s.rdu.rdErr } := by
  simp only [State.ackErrors, and_not_eq_ite]

end Sys2Proof.Machine

namespace Sys2Proof.Proofs

open Sys2Proof.Machine

/-- Settles O24: each bit of the value is one flag of the state. -/
theorem statusReadsOneSnapshot : Obligations.StatusReadsOneSnapshot := by
  intro s
  refine ⟨regStatus s, readCtu_eq s _, ?_, ?_, ?_, ?_, ?_, ?_, ?_, ?_, toNat_regStatus_lt s⟩ <;>
    simp [regStatus]

/-- Settles O25: `CTRL` is one bit and `CONFIG` two halves; the others are elements of the state. -/
theorem ctuPlainReads : Obligations.CtuPlainReads := fun s =>
  ⟨readCtu_of_eq (regCtrl_eq s), readCtu_eq s _, readCtu_eq s _, readCtu_eq s _,
    readCtu_of_eq (regConfig_eq s)⟩

/-- Settles O26: `INTS` is the AND of the two others, bit by bit. -/
theorem interruptRegistersRead : Obligations.InterruptRegistersRead := by
  intro s
  refine ⟨regIntr s, regInte s, regInts s, readCtu_eq s _, readCtu_eq s _, readCtu_eq s _,
    ?_, ?_, toNat_regIntr_lt s, ?_, ?_, toNat_regInte_lt s, regInts_eq_and s, irq_iff_regInts_ne_zero s⟩ <;>
    simp [regIntr, regInte]

/-- Settles O27: `SST` fills the two lowest bits, and each bit above them is one flag of the state. -/
theorem rstatusReads : Obligations.RstatusReads := by
  intro s
  refine ⟨regRstatus s, readRdu_eq s _, (regRstatus_sst s).trans rfl, ?_, ?_, ?_, ?_, ?_,
    toNat_regRstatus_lt s⟩ <;>
    simp [regRstatus]

/-- Settles O28: `OUT_FRAME` is two halves; the others are elements of the state. -/
theorem rduPlainReads : Obligations.RduPlainReads := fun s =>
  ⟨readRdu_eq s _, readRdu_eq s _, readRdu_eq s _, readRdu_eq s _, readRdu_eq s _,
    readRdu_of_eq (regOutFrame_eq s), readRdu_eq s _⟩

/-- Settles O29: each of the twelve rows is the end of a write and nothing before it. -/
theorem readOnlyWritesIgnored : Obligations.ReadOnlyWritesIgnored := by
  intro s d
  constructor <;> intro i hi <;> simp only [List.mem_cons, List.not_mem_nil, or_false] at hi
  · rcases hi with rfl | rfl | rfl | rfl | rfl <;> exact wroteCtu_eq s
  · rcases hi with rfl | rfl | rfl | rfl | rfl | rfl | rfl <;> exact wroteRdu_eq s

/-- Settles O30: in either unit a read is that of the value 0, a write the end of a write and nothing before it. -/
theorem reservedOffsetsReadZero : Obligations.ReservedOffsetsReadZero := fun s _ _ =>
  ⟨readCtu_eq s 0, readRdu_eq s 0, wroteCtu_eq s, wroteRdu_eq s⟩

/-- Settles O31: each of the four rows is the bus error of the unit accessed. -/
theorem busErrorsChangeNothing : Obligations.BusErrorsChangeNothing := by
  intro s half we off
  constructor <;> intro i hi <;> simp only [List.mem_cons, List.not_mem_nil, or_false] at hi
  · rcases hi with rfl | rfl | rfl | rfl <;> exact busError_eq s .ctu
  · rcases hi with rfl | rfl | rfl | rfl <;> exact busError_eq s .rdu

/-- Settles O32: the request asks all three at once, so that each of the alternatives of the third case denies it. -/
theorem startRequest : Obligations.StartRequest := by
  intro s d
  refine ⟨fun hd hrun hcfg => exec_wrCtuCtrl_start ⟨hd, hrun, hcfg⟩,
    fun hd hrun hcfg => exec_wrCtuCtrl_misconfigured ⟨hd, hrun, hcfg⟩, fun h => ?_⟩
  refine exec_wrCtuCtrl_ignored fun ⟨hd, hrun, hcfg⟩ => ?_
  simp only [hd, hrun, hcfg, Bool.false_eq_true, Bool.true_eq_false, or_false] at h

/-- Settles O33: the write asks that the block is stopped and not misconfigured. -/
theorem clkdivWrite : Obligations.ClkdivWrite := by
  intro s d
  refine ⟨fun hrun hcfg => exec_wrCtuClkdiv_stopped ⟨hrun, hcfg⟩, fun h => ?_⟩
  refine exec_wrCtuClkdiv_ignored fun ⟨hrun, hcfg⟩ => ?_
  simp [hrun, hcfg] at h

/-- Settles O34: the acknowledgement writes `INTR` only, and a write of `INTE` `INTE` only. -/
theorem interruptRegisterWrites : Obligations.InterruptRegisterWrites := fun s d =>
  ⟨congrArg wroteCtu (s.ackIntr_eq d), wroteCtu_eq _⟩

/-- Settles O35: the acknowledgement writes the two error bits only. -/
theorem rstatusWriteOneClears : Obligations.RstatusWriteOneClears := fun s d =>
  congrArg wroteRdu (s.ackErrors_eq d)

end Sys2Proof.Proofs
end

section
/-!
PROOFS. Reachable states (spec/60_exceptions.md): what power-on establishes and every instruction keeps holds of
every reachable state, and power-on meets the invariants of R46 and of the buffer arenas (R27, R90). From them,
that TX_LO sends a word that capture wrote, unchanged (R285 a).
-/

namespace Sys2Proof.Machine

/-! ### Runs, from instructions -/

/-- What every instruction keeps, every run of trace lines keeps. -/
theorem State.runLines_keeps {I : State → Prop} (hexec : ∀ i s t, I s → exec i s = .next t → I t)
    {lines : List TraceLine} {s t : State} (hs : I s) (h : s.runLines lines = .next t) : I t := by
  induction lines generalizing s with
  | nil => cases h; exact hs
  | cons line rest ih =>
    unfold State.runLines at h
    split at h
    · next u hu =>
      obtain ⟨i, -, hi⟩ := State.runLine_eq_next.1 hu
      exact ih (hexec i s u hs hi) h
    · cases h
    · cases h

/-- What holds at power-on of any block with legal parameters, and what every instruction keeps, holds of every
reachable state. -/
theorem State.reachable.keeps {I : State → Prop} (hbase : ∀ p, p.valid = true → I (State.powerOn p))
    (hexec : ∀ i s t, I s → exec i s = .next t → I t) {s : State} (h : s.reachable) : I s := by
  obtain ⟨p, hp, lines, hlines⟩ := h
  exact State.runLines_keeps hexec (hbase p hp) hlines

/-! ### The invariants at power-on -/

theorem Ctu.atReset_sound (p : Params) (epoch : Nat) : (Ctu.atReset epoch).Sound p where
  indices := ⟨bufLen_pos p, bufLen_pos p⟩
  running hrun := nomatch hrun
  sending hst := absurd rfl hst
  queue := Nat.zero_le _
  stopped _ := ⟨rfl, rfl, rfl, rfl⟩

theorem Rdu.atReset_cleanBeforeLock : Rdu.atReset.CleanBeforeLock := fun _ => ⟨rfl, rfl, rfl, rfl, rfl⟩

theorem State.powerOn_wellBehaved {p : Params} (hp : p.valid = true) : (State.powerOn p).WellBehaved :=
  State.wellBehaved_iff.2 ⟨hp, Ctu.atReset_sound p 0, Rdu.atReset_cleanBeforeLock⟩

/-- At power-on no cell is written, no buffer is ready and the fill has not begun. -/
theorem State.powerOn_buffersSound (p : Params) : (State.powerOn p).BuffersSound where
  canonical := rfl
  readyWritten x _ hx _ := nomatch (PerBuf.get_both_false x).symm.trans hx
  fillWritten i hi := absurd hi (Nat.not_lt_zero i)
  samples _ _ _ hw := nomatch hw

/-! ### The invariants of a reachable state -/

theorem State.reachable.wellBehaved {s : State} (h : s.reachable) : s.WellBehaved :=
  h.keeps (fun _ hp => State.powerOn_wellBehaved hp) fun _ _ _ hs hi => exec_keeps_wellBehaved hs hi

theorem State.reachable.buffersSound {s : State} (h : s.reachable) : s.BuffersSound :=
  h.keeps (fun p _ => State.powerOn_buffersSound p) fun _ _ _ hb hi => exec_keeps_buffersSound hb hi

/-! ### What the transmitter reads -/

/-- TX_LO completes only in DATA_LO, and latches the encode function of the cell it reads (R152). -/
theorem exec_txLo_next {s t : State} (h : exec .txLo s = .next t) :
    s.ctu.txSt = .dataLo ∧ t.ctu.txWord = encWord s.params (s.readCell s.ctu.txBuf s.ctu.txI) :=
  (execTxLo_yields_guarded (P := fun u => s.ctu.txSt = .dataLo ∧
      u.ctu.txWord = encWord s.params (s.readCell s.ctu.txBuf s.ctu.txI)) fun hst _ => ⟨hst, rfl⟩).of_next h

/-- While a packet is being sent, its current cell has been written: its buffer is ready (R46 c), and a ready
buffer is written whole. -/
theorem State.BuffersSound.written_of_sending {s : State} (hb : s.BuffersSound) (hs : s.WellBehaved)
    (hst : s.ctu.txSt ≠ .idle) : s.cellWritten s.ctu.txBuf s.ctu.txI = true :=
  hb.readyWritten _ _ (hs.sending hst) hs.indices.2

end Sys2Proof.Machine

namespace Sys2Proof.Proofs

open Sys2Proof.Machine

/-- Settles O44: the cell is one of a ready buffer, so a captured sample, which is no terminator pattern. -/
theorem substitutionNeverFires : Obligations.SubstitutionNeverFires := by
  intro s t hreach h
  have hs := hreach.wellBehaved
  have hb := hreach.buffersSound
  obtain ⟨hst, hword⟩ := exec_txLo_next h
  have hwritten := hb.written_of_sending hs (hst ▸ by decide)
  have hsample := hb.samples _ _ hs.indices.2 hwritten
  exact ⟨hwritten, hsample, hword.trans (encWord_of_ne _ (ne_termWord_of_lt hsample))⟩

end Sys2Proof.Proofs
end

section
/-!
PROOFS. Reset (R300 to R302): a unit's reset puts that unit at its reset value and leaves the rest of the state, so
power-on is both resets on an empty line. The three invariants hold there, whatever the legal parameters are.
-/

namespace Sys2Proof.Machine

/-! ### The two resets -/

theorem exec_resetCtu (s : State) :
    exec .resetCtu s = .next { s with ctu := Ctu.atReset (s.ctu.bufEpoch + 1) } := rfl

theorem exec_resetRdu (s : State) : exec .resetRdu s = .next { s with rdu := Rdu.atReset } := rfl

/-- What both resets, the CTU's first, lead to. -/
theorem bothResets_next {s t u : State} (ht : exec .resetCtu s = .next t) (hu : exec .resetRdu t = .next u) :
    u = { s with ctu := Ctu.atReset (s.ctu.bufEpoch + 1), rdu := Rdu.atReset } := by
  rw [exec_resetCtu] at ht
  cases ht
  rw [exec_resetRdu] at hu
  cases hu
  rfl

/-- Two resets of the CTU differ in the epoch of the free contents alone (log entry 4). -/
theorem Ctu.atReset_eq_with_epoch (e e' : Nat) : Ctu.atReset e = { Ctu.atReset e' with bufEpoch := e } := rfl

/-! ### A CTU at reset -/

theorem State.cellWritten_of_ctu_atReset {s : State} {e : Nat} (h : s.ctu = Ctu.atReset e) (x : Buf) (i : Nat) :
    s.cellWritten x i = false := by
  rw [State.cellWritten, h]; rfl

/-- At reset nothing is pending and nothing is enabled, so the line of R287 is low. -/
theorem irq_of_ctu_atReset {s : State} {e : Nat} (h : s.ctu = Ctu.atReset e) : irq s = false := by
  rw [irq, h]; rfl

/-! ### Power-on -/

/-- At power-on the converter is at channel 0, where cell 0 asks for it, and neither buffer has been filled. -/
theorem State.powerOn_roundRobin (p : Params) : (State.powerOn p).RoundRobin :=
  State.roundRobin_iff.2 ⟨(channelOf_of_even (Nat.zero_mod 2)).symm, (BitVec.add_zero _).symm⟩

theorem Params.default_valid : Params.default.valid = true := by decide

end Sys2Proof.Machine

namespace Sys2Proof.Proofs

open Sys2Proof.Machine

/-- Settles O36: the reset CTU of the model has R300's values, and the arenas list no byte. -/
theorem ctuResetValues : Obligations.CtuResetValues := fun s =>
  ⟨_, exec_resetCtu s, State.cellWritten_of_ctu_atReset rfl, irq_of_ctu_atReset rfl, rfl⟩

/-- Settles O37: the reset RDU of the model has R301's values. -/
theorem rduResetValues : Obligations.RduResetValues := exec_resetRdu

/-- Settles O38: both units are then at reset, where two states differ in the free contents' epoch alone. -/
theorem powerOnIsBothResets : Obligations.PowerOnIsBothResets := by
  intro p s t u ht hu
  obtain rfl := bothResets_next ht hu
  have hctu : (State.powerOn p).ctu = Ctu.atReset 0 := rfl
  exact ⟨rfl, Ctu.atReset_eq_with_epoch 0 _, rfl, rfl, rfl, irq_of_ctu_atReset hctu,
    State.cellWritten_of_ctu_atReset hctu, rfl⟩

/-- Settles O42: the base cases of the three invariants; `State.reset` is power-on with the default parameters,
which are legal. -/
theorem resetIsGoodState : Obligations.ResetIsGoodState := by
  have hpowerOn : ∀ p : Params, p.valid = true →
      (State.powerOn p).WellBehaved ∧ (State.powerOn p).BuffersSound ∧ (State.powerOn p).RoundRobin :=
    fun p hp => ⟨State.powerOn_wellBehaved hp, State.powerOn_buffersSound p, State.powerOn_roundRobin p⟩
  exact ⟨hpowerOn, hpowerOn _ Params.default_valid⟩

end Sys2Proof.Proofs
end
